-- ==== Sys2Proof/Word.lean ====
section
/-! DEFINITION. The two word types of WAM-IO: the byte of the two streams (20_memory.md R71) and the 24-bit operation
word of 30_encoding.md R110. -/

namespace Sys2Proof

/-- One byte of a stream or of a line (20_memory.md R71, R74). -/
abbrev Byte := BitVec 8

/-- A 24-bit operation word: class in bits 23 to 16, operand in bits 15 to 0 (30_encoding.md R110). -/
abbrev OpWord := BitVec 24

end Sys2Proof
end

