-- ==== Sys2Proof/Machine/Bytes.lean ====
section
/-! DEFINITION. Byte strings and the byte-level encodings of WAM-IO: byte classes (30_encoding.md R90 to R92), decimal text
(00_scope.md R12), the score line's validity (30_encoding.md R93) and the texts the block transmits (30_encoding.md R97). -/

namespace Sys2Proof.Machine

/-- The byte classes of 30_encoding.md R90, with the two terminators kept apart as 41_serial_rx.md R160 does. -/
inductive ByteClass where
  | g | p | e | x | cr | lf | ordinary
  deriving DecidableEq, Repr

/-- The class of a received byte, by exact 8-bit equality: control first, then terminator, then ordinary
(30_encoding.md R90, R91, R92). -/
def classify (b : Byte) : ByteClass :=
  if b = 0x47#8 then .g
  else if b = 0x50#8 then .p
  else if b = 0x45#8 then .e
  else if b = 0x58#8 then .x
  else if b = 0x0D#8 then .cr
  else if b = 0x0A#8 then .lf
  else .ordinary

/-- An ordinary byte: neither a control byte nor a terminator (30_encoding.md R90). -/
def isOrdinary (b : Byte) : Bool := classify b == .ordinary

/-- isdigit of 00_scope.md R12: 0x30 to 0x39. -/
def isDigit (b : Byte) : Bool := decide (0x30 ≤ b.toNat) && decide (b.toNat ≤ 0x39)

/-- dec of 00_scope.md R12, the decimal value of a digit string, most significant digit first. -/
def dec (s : List Byte) : Nat := s.foldl (fun acc b => acc * 10 + (b.toNat - 0x30)) 0

/-- The ASCII digit of a number below 10 (30_encoding.md R107). -/
def digitByte (n : Nat) : Byte := BitVec.ofNat 8 (0x30 + n)

/-- The digits of n in front of acc, by at most `fuel` divisions by ten. -/
def fmtDecAux : Nat → Nat → List Byte → List Byte
  | 0, _, acc => acc
  | fuel + 1, n, acc =>
    if n < 10 then digitByte n :: acc else fmtDecAux fuel (n / 10) (digitByte (n % 10) :: acc)

/-- fmt_dec of 00_scope.md R12: the shortest digit string whose dec is n. -/
def fmtDec (n : Nat) : List Byte := fmtDecAux (n + 1) n []

/-- PREFIX, the bytes of "SCR:" (00_scope.md R7). -/
def scorePrefix : List Byte := [0x53#8, 0x43#8, 0x52#8, 0x3A#8]

/-- A valid score line: at least 5 bytes, "SCR:" first, all further bytes digits (30_encoding.md R93, D12). -/
def isScoreLine (line : List Byte) : Bool :=
  decide (5 ≤ line.length) && (line.take 4 == scorePrefix) && (line.drop 4).all isDigit

/-- LINE_END = CR LF (00_scope.md R7, D14). -/
def lineEnd : List Byte := [0x0D#8, 0x0A#8]

/-- "System Ready." (30_encoding.md R97). -/
def bootText : List Byte :=
  [0x53#8, 0x79#8, 0x73#8, 0x74#8, 0x65#8, 0x6D#8, 0x20#8, 0x52#8, 0x65#8, 0x61#8, 0x64#8, 0x79#8, 0x2E#8]

/-- "POT:" followed by fmt_dec of the reading (30_encoding.md R97, D15). -/
def potText (v : BitVec 10) : List Byte := [0x50#8, 0x4F#8, 0x54#8, 0x3A#8] ++ fmtDec v.toNat

/-- "BTN:" followed by the one digit 0x30 + i (30_encoding.md R97, R107). -/
def buttonText (i : Fin 9) : List Byte := [0x42#8, 0x54#8, 0x4E#8, 0x3A#8, digitByte i.val]

/-- "BTN:CONFIRM" (30_encoding.md R97). -/
def confirmText : List Byte :=
  [0x42#8, 0x54#8, 0x4E#8, 0x3A#8, 0x43#8, 0x4F#8, 0x4E#8, 0x46#8, 0x49#8, 0x52#8, 0x4D#8]

end Sys2Proof.Machine
end

