-- ==== Sys2Proof/Syntax.lean ====
section
/-! DEFINITION. The operations of WAM-IO as data: one constructor per row of spec/opcode_table.json (30_encoding.md R111). -/

namespace Sys2Proof

/-- Who takes a step (00_scope.md R10; the agent column of 30_encoding.md R111). `power` is the "(reset)" of RESET. -/
inductive Agent where
  | power | isr | main | env
  deriving DecidableEq, Repr

/-- The operation words of 30_encoding.md R111, operands as fields. -/
inductive Instr where
  /-- RESET, 0x000000 (70_reset_and_hazards.md R320). -/
  | reset
  /-- RX_G, 0x010047 (41_serial_rx.md R161). -/
  | rxG
  /-- RX_P, 0x010050 (41_serial_rx.md R162). -/
  | rxP
  /-- RX_E, 0x010045 (41_serial_rx.md R163). -/
  | rxE
  /-- RX_X, 0x010058 (41_serial_rx.md R164). -/
  | rxX
  /-- RX_CR, 0x01000D (41_serial_rx.md R166). -/
  | rxCr
  /-- RX_LF, 0x01000A (41_serial_rx.md R167). -/
  | rxLf
  /-- RX_ORD, 0x0100bb for an ordinary byte bb (41_serial_rx.md R165). -/
  | rxOrd (b : Byte)
  /-- CONF_SVC, 0x020000 (43_input_sampler.md R226). -/
  | confSvc
  /-- TICK, 0x030000 (40_display_mux.md R130). -/
  | tick
  /-- TX_BYTE, 0x100000 (42_serial_tx.md R200). -/
  | txByte
  /-- SCAN(i), 0x11000i (43_input_sampler.md R220). -/
  | scan (i : BitVec 4)
  /-- BTN_WAIT_END(i), 0x12000i (43_input_sampler.md R221). -/
  | btnWaitEnd (i : BitVec 4)
  /-- POT_START, 0x130000 (43_input_sampler.md R240). -/
  | potStart
  /-- POT_READ, 0x140000 (43_input_sampler.md R241). -/
  | potRead
  /-- CONF_CHECK, 0x150000 (43_input_sampler.md R230). -/
  | confCheck
  /-- CONF_WAIT_END, 0x160000 (43_input_sampler.md R231). -/
  | confWaitEnd
  /-- ENV_RX(b), 0x2000bb (60_exceptions.md R281). -/
  | envRx (b : Byte)
  /-- ENV_CONF(l), 0x21000l; `level` is the new conf_n, true for 1 (60_exceptions.md R282). -/
  | envConf (level : Bool)
  /-- ENV_TIMER, 0x220000 (60_exceptions.md R286). -/
  | envTimer
  /-- ENV_ADC_DONE(v), 0x23vvvv (60_exceptions.md R283). -/
  | envAdcDone (v : BitVec 10)
  /-- ENV_TX_DONE, 0x240000 (60_exceptions.md R287). -/
  | envTxDone
  /-- ENV_BTN(v), 0x25vvvv (60_exceptions.md R288). -/
  | envBtn (v : BitVec 9)
  deriving DecidableEq, Repr

/-- Why a word is ill-formed (30_encoding.md R112). -/
inductive Reject where
  /-- The class is not in 30_encoding.md R111. -/
  | unknownClass
  /-- The operand has bits set outside the field the table gives. -/
  | operandBits
  /-- A SCAN or BTN_WAIT_END operand above 8. -/
  | indexAboveEight
  deriving DecidableEq, Repr

end Sys2Proof
end

