-- ==== Sys2Proof/WellFormed.lean ====
section
/-! DEFINITION. Which operations are well-formed: the limits of 30_encoding.md R111 and R112 that the operand's width does
not already give. -/

namespace Sys2Proof

/-- A button index is 0 to 8, and RX_ORD carries an ordinary byte (30_encoding.md R111, R112, R90). -/
def Instr.wellFormed : Instr → Bool
  | .rxOrd b => Sys2Proof.Machine.isOrdinary b
  | .scan i => decide (i.toNat ≤ 8)
  | .btnWaitEnd i => decide (i.toNat ≤ 8)
  | .reset | .rxG | .rxP | .rxE | .rxX | .rxCr | .rxLf | .confSvc | .tick | .txByte | .potStart | .potRead
  | .confCheck | .confWaitEnd | .envRx _ | .envConf _ | .envTimer | .envAdcDone _ | .envTxDone | .envBtn _ => true

end Sys2Proof
end

