-- ==== Sys2Proof/Decode.lean ====
section
/-! DEFINITION. Operation words to operations and back, from the class table of 30_encoding.md R111. -/

namespace Sys2Proof

open Sys2Proof.Machine

/-- The agent of an operation (30_encoding.md R111). -/
def Instr.agent : Instr → Agent
  | .reset => .power
  | .rxG | .rxP | .rxE | .rxX | .rxCr | .rxLf | .rxOrd _ | .confSvc | .tick => .isr
  | .txByte | .scan _ | .btnWaitEnd _ | .potStart | .potRead | .confCheck | .confWaitEnd => .main
  | .envRx _ | .envConf _ | .envTimer | .envAdcDone _ | .envTxDone | .envBtn _ => .env

/-- The receive operation a byte selects: "the mnemonic follows from the byte" (30_encoding.md R111, 41_serial_rx.md R160). -/
def rxInstr (b : Byte) : Instr :=
  match classify b with
  | .g => .rxG
  | .p => .rxP
  | .e => .rxE
  | .x => .rxX
  | .cr => .rxCr
  | .lf => .rxLf
  | .ordinary => .rxOrd b

/-- bits [23:16] of a word (30_encoding.md R110). -/
def opClass (w : OpWord) : BitVec 8 := w.extractLsb' 16 8

/-- bits [15:0] of a word (30_encoding.md R110). -/
def opOperand (w : OpWord) : BitVec 16 := w.extractLsb' 0 16

/-- An operand field of `width` bits at bit 0: any bit above it makes the word ill-formed (30_encoding.md R112). -/
def withField (width : Nat) (operand : BitVec 16) (f : BitVec width → Instr) : Except Reject Instr :=
  if operand.toNat < 2 ^ width then .ok (f (operand.setWidth width)) else .error .operandBits

/-- A row whose operand is 0 (30_encoding.md R111). -/
def noOperand (operand : BitVec 16) (i : Instr) : Except Reject Instr :=
  if operand = 0#16 then .ok i else .error .operandBits

/-- A row whose operand is a button index in [3:0], 0 to 8 (30_encoding.md R111, R112). -/
def withIndex (operand : BitVec 16) (f : BitVec 4 → Instr) : Except Reject Instr :=
  if operand.toNat < 16 then
    if operand.toNat ≤ 8 then .ok (f (operand.setWidth 4)) else .error .indexAboveEight
  else .error .operandBits

/-- The operation of a class and an operand, the rows of 30_encoding.md R111. -/
def decodeRow (cls : Nat) (operand : BitVec 16) : Except Reject Instr :=
  match cls with
  | 0x00 => noOperand operand .reset
  | 0x01 => withField 8 operand rxInstr
  | 0x02 => noOperand operand .confSvc
  | 0x03 => noOperand operand .tick
  | 0x10 => noOperand operand .txByte
  | 0x11 => withIndex operand .scan
  | 0x12 => withIndex operand .btnWaitEnd
  | 0x13 => noOperand operand .potStart
  | 0x14 => noOperand operand .potRead
  | 0x15 => noOperand operand .confCheck
  | 0x16 => noOperand operand .confWaitEnd
  | 0x20 => withField 8 operand .envRx
  | 0x21 => withField 1 operand (fun l => .envConf (l == 1#1))
  | 0x22 => noOperand operand .envTimer
  | 0x23 => withField 10 operand .envAdcDone
  | 0x24 => noOperand operand .envTxDone
  | 0x25 => withField 9 operand .envBtn
  | _ => .error .unknownClass

/-- The operation of a word, or why the word is ill-formed (30_encoding.md R111, R112). -/
def decode (w : OpWord) : Except Reject Instr := decodeRow (opClass w).toNat (opOperand w)

/-- A word from its class and operand (30_encoding.md R110). -/
def opWord (cls : BitVec 8) (operand : BitVec 16) : OpWord := cls ++ operand

/-- The word of an operation (30_encoding.md R111). -/
def encode : Instr → OpWord
  | .reset => opWord 0x00#8 0x0000#16
  | .rxG => opWord 0x01#8 0x0047#16
  | .rxP => opWord 0x01#8 0x0050#16
  | .rxE => opWord 0x01#8 0x0045#16
  | .rxX => opWord 0x01#8 0x0058#16
  | .rxCr => opWord 0x01#8 0x000D#16
  | .rxLf => opWord 0x01#8 0x000A#16
  | .rxOrd b => opWord 0x01#8 (b.setWidth 16)
  | .confSvc => opWord 0x02#8 0x0000#16
  | .tick => opWord 0x03#8 0x0000#16
  | .txByte => opWord 0x10#8 0x0000#16
  | .scan i => opWord 0x11#8 (i.setWidth 16)
  | .btnWaitEnd i => opWord 0x12#8 (i.setWidth 16)
  | .potStart => opWord 0x13#8 0x0000#16
  | .potRead => opWord 0x14#8 0x0000#16
  | .confCheck => opWord 0x15#8 0x0000#16
  | .confWaitEnd => opWord 0x16#8 0x0000#16
  | .envRx b => opWord 0x20#8 (b.setWidth 16)
  | .envConf l => opWord 0x21#8 ((BitVec.ofBool l).setWidth 16)
  | .envTimer => opWord 0x22#8 0x0000#16
  | .envAdcDone v => opWord 0x23#8 (v.setWidth 16)
  | .envTxDone => opWord 0x24#8 0x0000#16
  | .envBtn v => opWord 0x25#8 (v.setWidth 16)

/-- The operation of the low `nbits` bits of a table word; every row of the table is one 24-bit word (30_encoding.md R110). -/
def decodeTableWord (nbits w : Nat) : Option Instr :=
  if w < 2 ^ nbits ∧ w < 2 ^ 24 then
    match decode (BitVec.ofNat 24 w) with
    | .ok i => some i
    | .error _ => none
  else none

end Sys2Proof
end

