-- ==== Sys2Proof/Config.lean ====
section
/-! DEFINITION. The implementation parameters of 00_scope.md R6 to R9, fixed when the block is built (10_state.md R31).
Each is a constant with no body: the spec leaves its value OPEN or gives only a nominal figure, so no proof may rest on
one (log entry 9). -/

namespace Sys2Proof.Config

/-- The seven segment bits (bit 0 = a up to bit 6 = g, active-low) of each digit's pattern: the open part of SEG_TABLE
(30_encoding.md R100, R101, D4; log entries 9 and 10). -/
opaque segPatterns : Vector (BitVec 7) 10

/-- POT_THRESHOLD, 0 to 1023 (00_scope.md R8, D16). -/
opaque potThreshold : BitVec 10

/-- DIG_EN_ACTIVE_LOW, the electrical polarity of the digit-enable lines (00_scope.md R6, D2). -/
opaque digEnActiveLow : Bool

/-- LED_ACTIVE_LOW, the electrical polarity of the LED lines (00_scope.md R6, D2). -/
opaque ledActiveLow : Bool

/-- T_TICK in microseconds; the spec's default is 1250 (00_scope.md R9, D7). The untimed machine never reads it. -/
opaque tTick : Nat

/-- T_DEB_BTN in microseconds, a lower bound; nominally 50000 (00_scope.md R9, D21). The untimed machine never reads it. -/
opaque tDebBtn : Nat

/-- T_DEB_CONF in microseconds, a lower bound; nominally 300000 (00_scope.md R9, D21). The untimed machine never reads it. -/
opaque tDebConf : Nat

/-- T_BYTE in microseconds, about 1040 (00_scope.md R9). The untimed machine never reads it. -/
opaque tByte : Nat

end Sys2Proof.Config
end

