-- ==== Sys2Proof/Machine/State.lean ====
section
/-! DEFINITION. The whole state of WAM-IO (10_state.md) as plain data, its reset value (70_reset_and_hazards.md R320), and
the reasons a step can stop. -/

namespace Sys2Proof.Machine

/-- LedState (10_state.md R34, 30_encoding.md R104). -/
inductive Led where
  | off | green | yellow | red
  deriving DecidableEq, Repr

/-- A position of MAIN outside a transmission (10_state.md R47). The `next` of TX is one of these, never itself a TX value. -/
inductive LoopPhase where
  | scan (i : Fin 9)
  | btnWait (i : Fin 9)
  | potStart
  | potWait
  | confCheck
  | confWait
  deriving DecidableEq, Repr

/-- MAIN's phase, the PC-equivalent (10_state.md R47): transmitting with a continuation, or a position of the loop. -/
inductive Phase where
  | tx (next : LoopPhase)
  | loop (p : LoopPhase)
  deriving DecidableEq, Repr

/-- One entry of the port-event trace PT: the port and the value written (00_scope.md R14, 10_state.md R38). -/
inductive PortEvent where
  | digEn (v : BitVec 4)
  | segN (v : BitVec 8)
  | leds (g y r : Bool)
  deriving DecidableEq, Repr

/-- Every state element of 10_state.md, and `sched`, the model's own. -/
structure State where
  /-- DisplayBuffer, thousands first (R32). -/
  disp : Vector (BitVec 4) 4
  /-- ScanCursor (R33). -/
  cursor : Fin 4
  /-- LedState (R34). -/
  led : Led
  /-- rx_buf, the nine cells (R35). -/
  rxBuf : Vector Byte 9
  /-- rx_len, cells in use (R35). -/
  rxLen : BitVec 4
  /-- The receive holding register (R36). -/
  rxData : Byte
  /-- Pending flag of the receive source (R36, R45). -/
  rxPending : Bool
  /-- Pending flag of the confirm source (R45). -/
  confPending : Bool
  /-- Pending flag of the tick source (R45). -/
  tickPending : Bool
  /-- The transport's shift register reports empty (R37). -/
  txEmpty : Bool
  /-- TXS, the bytes loaded so far, oldest first (R37). -/
  txs : List Byte
  /-- The segment bus, active-low (R38). -/
  segN : BitVec 8
  /-- The digit-enable lines, bit c for position c (R38). -/
  digEn : BitVec 4
  /-- Green indicator line (R38). -/
  ledG : Bool
  /-- Yellow indicator line (R38). -/
  ledY : Bool
  /-- Red indicator line (R38). -/
  ledR : Bool
  /-- PT, the port writes so far, oldest first (R39). -/
  pt : List PortEvent
  /-- ButtonLatch (R40). -/
  btnLatch : Vector Bool 9
  /-- ConfirmFlag (R41). -/
  confirmFlag : Bool
  /-- LastPotValue (R42). -/
  lastPot : BitVec 10
  /-- A conversion is running (R43). -/
  adcBusy : Bool
  /-- The conversion result (R43). -/
  adcData : BitVec 10
  /-- Raw button inputs, active-low (R44). -/
  btnN : BitVec 9
  /-- Raw confirm input, true for 1, active-low (R44). -/
  confN : Bool
  /-- MAIN's position (R47). -/
  phase : Phase
  /-- The line in transmission (R48). -/
  txLine : List Byte
  /-- Bytes of `txLine` already loaded (R48). -/
  txIdx : Nat
  /-- The display timer's hidden count, in whole periods expired since it was started (R46; log entry 11). -/
  timerPeriods : Nat
  /-- The MODEL's own field: the operation words the interleaving takes next (00_scope.md R10; log entry 1). -/
  sched : List OpWord
  deriving DecidableEq, Repr

/-- The machine right after reset (70_reset_and_hazards.md R320). rxBuf, rxData, adcData: log entry 7. btnN, confN: log
entry 8. sched: log entry 1. -/
def State.reset : State where
  disp := #v[0#4, 0#4, 0#4, 0#4]
  cursor := 0
  led := .off
  rxBuf := #v[0#8, 0#8, 0#8, 0#8, 0#8, 0#8, 0#8, 0#8, 0#8]
  rxLen := 0#4
  rxData := 0#8
  rxPending := false
  confPending := false
  tickPending := false
  txEmpty := true
  txs := []
  segN := 0xFF#8
  digEn := 0#4
  ledG := false
  ledY := false
  ledR := false
  pt := []
  btnLatch := #v[false, false, false, false, false, false, false, false, false]
  confirmFlag := false
  lastPot := 0#10
  adcBusy := false
  adcData := 0#10
  btnN := 0x1FF#9
  confN := true
  phase := .tx (.scan 0)
  txLine := bootText ++ lineEnd
  txIdx := 0
  timerPeriods := 0
  sched := []

/-- Why the machine stops. The hardware has no fault (60_exceptions.md R280). -/
inductive Fault where
  /-- Raised by TX_BYTE when `txIdx` is not an index of `txLine`, so that there is no byte to load. No run reaches such a
  state (20_memory.md R70). Safe: the model stops where the spec gives nothing. -/
  | txIndexOutOfRange
  deriving DecidableEq, Repr

/-- Why a step does not exist. -/
inductive Refusal where
  /-- An instruction that has no meaning yet; no arm of `exec` answers it. Safe. -/
  | notModelled (mnemonic : String)
  /-- Raised for a word that is ill-formed, and by SCAN and BTN_WAIT_END for a button index above 8 (30_encoding.md R112:
  "A model refuses an ill-formed word: it has no step"). Safe. -/
  | illFormed (w : OpWord)
  /-- Raised by every operation that is not enabled in the state (93_implementation_defined.md row 18: no step). Safe. -/
  | notEnabled (i : Instr)
  /-- Raised by DISPATCH when no source is pending, and when the scheduled service words are not the ones the pending
  flags select (60_exceptions.md R285, 30_encoding.md R112). Safe. -/
  | dispatchNotEnabled
  deriving DecidableEq, Repr

/-- The three outcomes of a step of this machine. -/
abbrev Result := Host.Outcome State Fault Refusal

end Sys2Proof.Machine
end

