-- ==== Sys2Proof/Machine/Operands.lean ====
section
/-! DEFINITION. Operand forms: the segment lookup, the score's digits, one-hot enables, the LED decoding, the button index
and the line in the assembly buffer. -/

namespace Sys2Proof.Machine

/-- SEG_TABLE[min(v, 9)] for a table given by its seven segment bits; bit 7, the decimal point, is 1 in every entry
(40_display_mux.md R132, D5; 30_encoding.md R100, R101). -/
def segLookup (patterns : Vector (BitVec 7) 10) (v : BitVec 4) : BitVec 8 :=
  1#1 ++ patterns[min v.toNat 9]'(Nat.lt_of_le_of_lt (Nat.min_le_right _ _) (by decide))

/-- seg_of (40_display_mux.md R132), over the block's SEG_TABLE. -/
def segOf (v : BitVec 4) : BitVec 8 := segLookup Config.segPatterns v

/-- The default common-anode table of 30_encoding.md R101, from general knowledge. The machine does not use it: SEG_TABLE
is a parameter. Tests check `segLookup` with it. -/
def defaultSegPatterns : Vector (BitVec 7) 10 :=
  #v[0x40#7, 0x79#7, 0x24#7, 0x30#7, 0x19#7, 0x12#7, 0x02#7, 0x78#7, 0x00#7, 0x10#7]

/-- onehot4(c) of 00_scope.md R11: only bit c is set. -/
def onehot4 (c : Fin 4) : BitVec 4 := 1#4 <<< c.val

/-- The four digits UPDATE_SCORE writes for n: clamped to 9999, thousands first (40_display_mux.md R140). -/
def scoreDigits (n : Nat) : Vector (BitVec 4) 4 :=
  let m := min n 9999
  #v[BitVec.ofNat 4 (m / 1000), BitVec.ofNat 4 (m / 100 % 10), BitVec.ofNat 4 (m / 10 % 10), BitVec.ofNat 4 (m % 10)]

/-- The line of the green indicator for a LedState (30_encoding.md R104). -/
def Led.lineG (l : Led) : Bool := l == .green

/-- The line of the yellow indicator for a LedState (30_encoding.md R104). -/
def Led.lineY (l : Led) : Bool := l == .yellow

/-- The line of the red indicator for a LedState (30_encoding.md R104). -/
def Led.lineR (l : Led) : Bool := l == .red

/-- The 2-bit code of a LedState (30_encoding.md R104, D9). -/
def Led.code : Led → BitVec 2
  | .off => 0#2
  | .green => 1#2
  | .yellow => 2#2
  | .red => 3#2

/-- A button index operand as a button, if it is 0 to 8 (30_encoding.md R111). -/
def buttonIndex (i : BitVec 4) : Option (Fin 9) :=
  if h : i.toNat < 9 then some ⟨i.toNat, h⟩ else none

/-- after(i): SCAN(i+1) for i < 8 and POT_START for i = 8 (43_input_sampler.md, 44_sequencer.md R261). -/
def afterButton (i : Fin 9) : LoopPhase :=
  if h : i.val + 1 < 9 then .scan ⟨i.val + 1, h⟩ else .potStart

/-- The in-progress line rx_buf[0:rx_len] (10_state.md R35). -/
def State.line (s : State) : List Byte := s.rxBuf.toList.take s.rxLen.toNat

/-- The logical level to the electrical level of the digit-enable lines (30_encoding.md R103). -/
def State.digEnLevels (s : State) : BitVec 4 :=
  s.digEn ^^^ (if Config.digEnActiveLow then 0xF#4 else 0#4)

/-- The electrical levels of the green, yellow and red lines (30_encoding.md R103). -/
def State.ledLevels (s : State) : Bool × Bool × Bool :=
  (s.ledG ^^ Config.ledActiveLow, s.ledY ^^ Config.ledActiveLow, s.ledR ^^ Config.ledActiveLow)

end Sys2Proof.Machine
end

