-- ==== Sys2Proof/Machine/Flags.lean ====
section
/-! DEFINITION. The conditions the operations test: pending sources and the services they select, a pressed button, a
falling confirm edge, and the potentiometer's hysteresis. WAM-IO has no condition codes (10_state.md R30). -/

namespace Sys2Proof.Machine

/-- Some source is pending (60_exceptions.md R284). -/
def State.anyPending (s : State) : Bool := s.rxPending || s.confPending || s.tickPending

/-- The services a DISPATCH entered now performs, in the fixed order receive, confirm, tick (60_exceptions.md R285). -/
def State.dueServices (s : State) : List Instr :=
  (if s.rxPending then [rxInstr s.rxData] else []) ++
  (if s.confPending then [Instr.confSvc] else []) ++
  (if s.tickPending then [Instr.tick] else [])

/-- Button i is pressed: its raw active-low signal is 0 (10_state.md R44, 43_input_sampler.md R222). -/
def pressed (btnN : BitVec 9) (i : Fin 9) : Bool := !btnN.getLsbD i.val

/-- A falling edge of conf_n (60_exceptions.md R282). -/
def fallingEdge (old new : Bool) : Bool := old && !new

/-- abs(v − last_pot) > POT_THRESHOLD, strictly greater (43_input_sampler.md R241, 30_encoding.md R106). -/
def exceedsThreshold (v last : BitVec 10) : Bool :=
  decide (Config.potThreshold.toNat < ((v.toNat : Int) - (last.toNat : Int)).natAbs)

end Sys2Proof.Machine
end

