-- ==== Sys2Proof/Machine/Ops.lean ====
section
/-! DEFINITION. The primitives of 00_scope.md R14 and R15 and the guards every operation shares. -/

namespace Sys2Proof.Machine

/-- Continue from a next state; a fault or a refusal ends the sequence. -/
def andThen (r : Result) (f : State → Result) : Result :=
  match r with
  | .next s => f s
  | .fault e => .fault e
  | .refused e => .refused e

/-- PortWrite(p, v): set the output port and append (p, v) to PT (00_scope.md R14). -/
def portWrite (e : PortEvent) (s : State) : State :=
  match e with
  | .digEn v => { s with digEn := v, pt := s.pt ++ [e] }
  | .segN v => { s with segN := v, pt := s.pt ++ [e] }
  | .leds g y r => { s with ledG := g, ledY := y, ledR := r, pt := s.pt ++ [e] }

/-- TxLoad(b): append b to TXS and clear tx_empty (00_scope.md R14). -/
def txLoad (b : Byte) (s : State) : State := { s with txs := s.txs ++ [b], txEmpty := false }

/-- AdcStart(): set adc_busy (00_scope.md R14). -/
def adcStart (s : State) : State := { s with adcBusy := true }

/-- The state RxTake() leaves: rx_pending is 0 (00_scope.md R14). The byte it returns is `s.rxData`. -/
def rxTake (s : State) : State := { s with rxPending := false }

/-- MAIN's next position. -/
def goto (p : LoopPhase) (s : State) : State := { s with phase := .loop p }

/-- emit(L, next): start the transmission of L ‖ LINE_END (42_serial_tx.md R201). -/
def emit (text : List Byte) (next : LoopPhase) (s : State) : State :=
  { s with txLine := text ++ lineEnd, txIdx := 0, phase := .tx next }

/-- A step that exists only where `enabled` holds; elsewhere the operation is refused by name
(93_implementation_defined.md row 18). -/
def guarded (i : Instr) (enabled : Bool) (t : State) : Result :=
  if enabled then .next t else .refused (.notEnabled i)

/-- A MAIN step at loop position p: enabled only there (44_sequencer.md R261), when no source is pending (R262), and under
the further guard g. -/
def mainStep (i : Instr) (p : LoopPhase) (g : Bool) (t : State) (s : State) : Result :=
  guarded i (!s.anyPending && decide (s.phase = .loop p) && g) t

/-- A receive service of byte b: enabled when b is pending; RxTake comes first (41_serial_rx.md R160, 30_encoding.md R112). -/
def rxService (i : Instr) (b : Byte) (f : State → State) (s : State) : Result :=
  guarded i (s.rxPending && decide (s.rxData = b)) (f (rxTake s))

end Sys2Proof.Machine
end

