-- ==== Sys2Proof/Machine/Environment.lean ====
section
/-! DEFINITION. The environment's steps (60_exceptions.md R281 to R283, R286 to R288) and RESET
(70_reset_and_hazards.md R320). -/

namespace Sys2Proof.Machine

/-- RESET: every element to its reset value; the inputs stay as ENV holds them, and so does the interleaving
(70_reset_and_hazards.md R320, R321, 10_state.md R44; log entries 7, 8 and 14). -/
def resetBody (s : State) : State := { State.reset with btnN := s.btnN, confN := s.confN, sched := s.sched }

/-- RESET, possible in every state (70_reset_and_hazards.md R320). -/
def execReset (s : State) : Result := .next (resetBody s)

/-- ENV_RX(b), enabled when the previous byte was serviced (60_exceptions.md R281; log entry 16). -/
def execEnvRx (b : Byte) (s : State) : Result :=
  guarded (.envRx b) (!s.rxPending) { s with rxData := b, rxPending := true }

/-- ENV_CONF(l): a falling edge raises the confirm source (60_exceptions.md R282). -/
def execEnvConf (level : Bool) (s : State) : Result :=
  .next { s with confPending := s.confPending || fallingEdge s.confN level, confN := level }

/-- ENV_TIMER: the display timer's period expires (60_exceptions.md R286, 40_display_mux.md R131; log entry 11). -/
def execEnvTimer (s : State) : Result :=
  .next { s with tickPending := true, timerPeriods := s.timerPeriods + 1 }

/-- ENV_ADC_DONE(v), enabled while a conversion runs (60_exceptions.md R283). -/
def execEnvAdcDone (v : BitVec 10) (s : State) : Result :=
  guarded (.envAdcDone v) s.adcBusy { s with adcData := v, adcBusy := false }

/-- ENV_TX_DONE, enabled while a byte is in the shift register (60_exceptions.md R287). -/
def execEnvTxDone (s : State) : Result :=
  guarded .envTxDone (!s.txEmpty) { s with txEmpty := true }

/-- ENV_BTN(v): the raw button levels change; no interrupt (60_exceptions.md R288). -/
def execEnvBtn (v : BitVec 9) (s : State) : Result := .next { s with btnN := v }

end Sys2Proof.Machine
end

