-- ==== Sys2Proof/Machine/InputSampler.lean ====
section
/-! DEFINITION. The input sampler (43_input_sampler.md): SCAN, BTN_WAIT_END, CONF_SVC, CONF_CHECK, CONF_WAIT_END,
POT_START, POT_READ. -/

namespace Sys2Proof.Machine

/-- SCAN(i): newly pressed, released or idle, held (43_input_sampler.md R220). -/
def scanBody (i : Fin 9) (s : State) : State :=
  if pressed s.btnN i then
    if s.btnLatch[i] then goto (afterButton i) s
    else emit (buttonText i) (.btnWait i) { s with btnLatch := s.btnLatch.set i true }
  else goto (afterButton i) { s with btnLatch := s.btnLatch.set i false }

/-- CONF_CHECK: report a set flag, else start the next iteration (43_input_sampler.md R230). -/
def confCheckBody (s : State) : State :=
  if s.confirmFlag then emit confirmText .confWait s else goto (.scan 0) s

/-- POT_READ: report a reading beyond the threshold (43_input_sampler.md R241). -/
def potReadBody (s : State) : State :=
  if exceedsThreshold s.adcData s.lastPot then
    emit (potText s.adcData) .confCheck { s with lastPot := s.adcData }
  else goto .confCheck s

/-- SCAN(i) (43_input_sampler.md R220); an index above 8 is an ill-formed word (30_encoding.md R112). -/
def execScan (i : BitVec 4) (s : State) : Result :=
  match buttonIndex i with
  | some k => mainStep (.scan i) (.scan k) true (scanBody k s) s
  | none => .refused (.illFormed (encode (.scan i)))

/-- BTN_WAIT_END(i), enabled at any time in its phase: the untimed reading (43_input_sampler.md R221, 44_sequencer.md R265;
log entry 12). An index above 8 is an ill-formed word (30_encoding.md R112). -/
def execBtnWaitEnd (i : BitVec 4) (s : State) : Result :=
  match buttonIndex i with
  | some k => mainStep (.btnWaitEnd i) (.btnWait k) true (goto (afterButton k) s) s
  | none => .refused (.illFormed (encode (.btnWaitEnd i)))

/-- CONF_SVC, the confirm service with the dispatcher's clear of its flag (43_input_sampler.md R226, 60_exceptions.md R285;
log entry 6). -/
def execConfSvc (s : State) : Result :=
  guarded .confSvc s.confPending { s with confPending := false, confirmFlag := true }

/-- CONF_CHECK (43_input_sampler.md R230). -/
def execConfCheck (s : State) : Result := mainStep .confCheck .confCheck true (confCheckBody s) s

/-- CONF_WAIT_END, enabled at any time in its phase: the untimed reading (43_input_sampler.md R231, 44_sequencer.md R265;
log entry 12). -/
def execConfWaitEnd (s : State) : Result :=
  mainStep .confWaitEnd .confWait true (goto (.scan 0) { s with confirmFlag := false }) s

/-- POT_START (43_input_sampler.md R240). -/
def execPotStart (s : State) : Result := mainStep .potStart .potStart true (goto .potWait (adcStart s)) s

/-- POT_READ, enabled when the conversion is done (43_input_sampler.md R241). -/
def execPotRead (s : State) : Result := mainStep .potRead .potWait (!s.adcBusy) (potReadBody s) s

end Sys2Proof.Machine
end

