-- ==== Sys2Proof/Machine/Display.lean ====
section
/-! DEFINITION. The display multiplexer (40_display_mux.md): TICK, UPDATE_SCORE, SET_LED. -/

namespace Sys2Proof.Machine

/-- UPDATE_SCORE(n): all four digits in one step (40_display_mux.md R140). -/
def updateScore (n : Nat) (s : State) : State := { s with disp := scoreDigits n }

/-- SET_LED(l): one write of all three lines (40_display_mux.md R142). -/
def setLed (l : Led) (s : State) : State :=
  portWrite (.leds l.lineG l.lineY l.lineR) { s with led := l }

/-- TICK: blank, drive the pattern, enable, advance, in that order (40_display_mux.md R130). -/
def tickBody (s : State) : State :=
  let c := s.cursor
  let blanked := portWrite (.digEn 0#4) s
  let driven := portWrite (.segN (segOf blanked.disp[c])) blanked
  let enabled := portWrite (.digEn (onehot4 c)) driven
  { enabled with cursor := c + 1 }

/-- TICK, the tick service with the dispatcher's clear of its flag (60_exceptions.md R285; log entry 6). -/
def execTick (s : State) : Result :=
  guarded .tick s.tickPending (tickBody { s with tickPending := false })

end Sys2Proof.Machine
end

