-- ==== Sys2Proof/Machine/SerialRx.lean ====
section
/-! DEFINITION. Serial receive (41_serial_rx.md): the control bytes, ordinary bytes, terminators and line evaluation. -/

namespace Sys2Proof.Machine

/-- Discard the line in progress: rx_len <- 0. -/
def clearLine (s : State) : State := { s with rxLen := 0#4 }

/-- What RX_G, RX_P and RX_E do: SET_LED, then rx_len <- 0 (41_serial_rx.md R161, R162, R163). -/
def controlByte (l : Led) (s : State) : State := clearLine (setLed l s)

/-- RX_X: SET_LED(Off); UPDATE_SCORE(0); rx_len <- 0 (41_serial_rx.md R164). -/
def clearByte (s : State) : State := clearLine (updateScore 0 (setLed .off s))

/-- RX_ORD(b): append below RX_CAP = 9, else drop (41_serial_rx.md R165). -/
def appendByte (b : Byte) (s : State) : State :=
  if h : s.rxLen.toNat < 9 then { s with rxBuf := s.rxBuf.set s.rxLen.toNat b h, rxLen := s.rxLen + 1#4 } else s

/-- LINE_EVAL(line): a valid score line is applied, any other discarded (41_serial_rx.md R168). -/
def lineEval (line : List Byte) (s : State) : State :=
  if isScoreLine line then updateScore (dec (line.drop 4)) s else s

/-- What RX_CR and RX_LF do: take the line, clear it, evaluate it (41_serial_rx.md R166, R167). -/
def terminator (s : State) : State := lineEval s.line (clearLine s)

/-- RX_G, 0x47 (41_serial_rx.md R161). -/
def execRxG (s : State) : Result := rxService .rxG 0x47#8 (controlByte .green) s

/-- RX_P, 0x50 (41_serial_rx.md R162). -/
def execRxP (s : State) : Result := rxService .rxP 0x50#8 (controlByte .yellow) s

/-- RX_E, 0x45 (41_serial_rx.md R163). -/
def execRxE (s : State) : Result := rxService .rxE 0x45#8 (controlByte .red) s

/-- RX_X, 0x58 (41_serial_rx.md R164). -/
def execRxX (s : State) : Result := rxService .rxX 0x58#8 clearByte s

/-- RX_CR, 0x0D (41_serial_rx.md R166). -/
def execRxCr (s : State) : Result := rxService .rxCr 0x0D#8 terminator s

/-- RX_LF, 0x0A (41_serial_rx.md R167). -/
def execRxLf (s : State) : Result := rxService .rxLf 0x0A#8 terminator s

/-- RX_ORD(b): b pending and ordinary (41_serial_rx.md R165, 30_encoding.md R90). -/
def execRxOrd (b : Byte) (s : State) : Result :=
  if isOrdinary b then rxService (.rxOrd b) b (appendByte b) s else .refused (.notEnabled (.rxOrd b))

end Sys2Proof.Machine
end

