-- ==== Sys2Proof/Machine/SerialTx.lean ====
section
/-! DEFINITION. Serial transmit (42_serial_tx.md): TX_BYTE. -/

namespace Sys2Proof.Machine

/-- TX_BYTE's effect once its byte is known: load it, count it, leave TX after the last byte (42_serial_tx.md R200). -/
def txByteBody (next : LoopPhase) (b : Byte) (s : State) : State :=
  let loaded := txLoad b s
  let counted := { loaded with txIdx := loaded.txIdx + 1 }
  if counted.txIdx = counted.txLine.length then goto next counted else counted

/-- TX_BYTE: enabled in TX with tx_empty = 1 and no source pending (42_serial_tx.md R200, 44_sequencer.md R262). An index
outside tx_line has no byte to load (log entry 13). -/
def execTxByte (s : State) : Result :=
  match s.phase with
  | .loop _ => .refused (.notEnabled .txByte)
  | .tx next =>
    if !s.anyPending && s.txEmpty then
      match s.txLine[s.txIdx]? with
      | some b => .next (txByteBody next b s)
      | none => .fault .txIndexOutOfRange
    else .refused (.notEnabled .txByte)

end Sys2Proof.Machine
end

