-- ==== Sys2Proof/Machine/Dispatch.lean ====
section
/-! DEFINITION. The meaning of every operation word (30_encoding.md R111): one arm per constructor. -/

namespace Sys2Proof.Machine

def exec (i : Instr) (s : State) : Host.Outcome State Fault Refusal :=
  match i with
  | .reset => Sys2Proof.Machine.execReset s
  | .rxG => Sys2Proof.Machine.execRxG s
  | .rxP => Sys2Proof.Machine.execRxP s
  | .rxE => Sys2Proof.Machine.execRxE s
  | .rxX => Sys2Proof.Machine.execRxX s
  | .rxCr => Sys2Proof.Machine.execRxCr s
  | .rxLf => Sys2Proof.Machine.execRxLf s
  | .rxOrd b => Sys2Proof.Machine.execRxOrd b s
  | .confSvc => Sys2Proof.Machine.execConfSvc s
  | .tick => Sys2Proof.Machine.execTick s
  | .txByte => Sys2Proof.Machine.execTxByte s
  | .scan k => Sys2Proof.Machine.execScan k s
  | .btnWaitEnd k => Sys2Proof.Machine.execBtnWaitEnd k s
  | .potStart => Sys2Proof.Machine.execPotStart s
  | .potRead => Sys2Proof.Machine.execPotRead s
  | .confCheck => Sys2Proof.Machine.execConfCheck s
  | .confWaitEnd => Sys2Proof.Machine.execConfWaitEnd s
  | .envRx b => Sys2Proof.Machine.execEnvRx b s
  | .envConf l => Sys2Proof.Machine.execEnvConf l s
  | .envTimer => Sys2Proof.Machine.execEnvTimer s
  | .envAdcDone v => Sys2Proof.Machine.execEnvAdcDone v s
  | .envTxDone => Sys2Proof.Machine.execEnvTxDone s
  | .envBtn v => Sys2Proof.Machine.execEnvBtn v s

end Sys2Proof.Machine
end

