-- ==== Sys2Proof/Machine/Interrupt.lean ====
section
/-! DEFINITION. Taking an interrupt: DISPATCH, the single entry point (60_exceptions.md R285). Nothing is saved, no mode
changes and nothing is restored on return (R291, R292): MAIN's fields are not touched. -/

namespace Sys2Proof.Machine

/-- The receive service: the operation the pending byte selects (41_serial_rx.md R160). -/
def receiveService (s : State) : Result :=
  match classify s.rxData with
  | .g => execRxG s
  | .p => execRxP s
  | .e => execRxE s
  | .x => execRxX s
  | .cr => execRxCr s
  | .lf => execRxLf s
  | .ordinary => execRxOrd s.rxData s

/-- DISPATCH: the flags are sampled at entry, then receive, confirm and tick are serviced in that order, all in one step
(60_exceptions.md R285, D22). -/
def dispatch (s : State) : Result :=
  let prx := s.rxPending
  let pcf := s.confPending
  let ptk := s.tickPending
  if prx || pcf || ptk then
    andThen (if prx then receiveService s else .next s) fun s1 =>
    andThen (if pcf then execConfSvc s1 else .next s1) fun s2 =>
    if ptk then execTick s2 else .next s2
  else .refused .dispatchNotEnabled

end Sys2Proof.Machine
end

