-- ==== Sys2Proof/Machine/Schedule.lean ====
section
/-! DEFINITION. Which agent moves (00_scope.md R10): the word at the head of `sched`, or, with nothing scheduled, the block
alone. Also the state in which a given word is the next to run. -/

namespace Sys2Proof.Machine

/-- `l` without the words `p` in front of it, if it starts with them. -/
def dropFront : List OpWord → List OpWord → Option (List OpWord)
  | [], l => some l
  | _ :: _, [] => none
  | p :: ps, x :: xs => if p = x then dropFront ps xs else none

/-- The words of the services a DISPATCH entered now performs (30_encoding.md R111, 60_exceptions.md R285). -/
def State.dueWords (s : State) : List OpWord := s.dueServices.map encode

/-- A scheduled DISPATCH: the head of `sched` must be exactly the service words the pending flags select; they are all
taken in one step (30_encoding.md R111, R112; log entry 5). -/
def takeDispatch (s : State) : Result :=
  match dropFront s.dueWords s.sched with
  | some rest => dispatch { s with sched := rest }
  | none => .refused .dispatchNotEnabled

/-- The step of the scheduled word w, with `rest` behind it: an ill-formed word is refused (30_encoding.md R112), a service
word starts a DISPATCH, any other word is executed. -/
def takeWord (w : OpWord) (rest : List OpWord) (s : State) : Result :=
  match decode w with
  | .error _ => .refused (.illFormed w)
  | .ok i => if i.agent = .isr then takeDispatch s else exec i { s with sched := rest }

/-- MAIN's one operation for its phase, if its guard holds (44_sequencer.md R261). -/
def State.mainOp (s : State) : Option Instr :=
  match s.phase with
  | .tx _ => if s.txEmpty then some .txByte else none
  | .loop (.scan i) => some (.scan (BitVec.ofNat 4 i.val))
  | .loop (.btnWait i) => some (.btnWaitEnd (BitVec.ofNat 4 i.val))
  | .loop .potStart => some .potStart
  | .loop .potWait => if s.adcBusy then none else some .potRead
  | .loop .confCheck => some .confCheck
  | .loop .confWait => some .confWaitEnd

/-- The block's own step, with no word scheduled: DISPATCH while a source is pending (60_exceptions.md R284), else MAIN's
enabled operation, else MAIN busy-waits and nothing changes (42_serial_tx.md R200, 43_input_sampler.md R241; log entry 2). -/
def ownStep (s : State) : Result :=
  if s.anyPending then dispatch s
  else
    match s.mainOp with
    | some i => exec i s
    | none => .next s

/-- Only byte b is pending. -/
def onlyRxPending (b : Byte) (s : State) : State :=
  { s with rxPending := true, rxData := b, confPending := false, tickPending := false }

/-- No source is pending. -/
def nonePending (s : State) : State := { s with rxPending := false, confPending := false, tickPending := false }

/-- MAIN at loop position p with no source pending. -/
def mainAt (p : LoopPhase) (s : State) : State := { nonePending s with phase := .loop p }

/-- MAIN about to load a byte: a transmission in progress is kept, else the boot line is taken (log entry 15). -/
def mainTransmitting (s : State) : State :=
  match s.phase with
  | .tx _ =>
    if s.txIdx < s.txLine.length then { nonePending s with txEmpty := true }
    else { nonePending s with txEmpty := true, txIdx := 0, txLine := bootText ++ lineEnd }
  | .loop _ => { nonePending s with txEmpty := true, phase := .tx (.scan 0), txIdx := 0, txLine := bootText ++ lineEnd }

/-- The changes that select operation i: the pending flags of a service, MAIN's phase and guard, an ENV step's guard
(log entry 15). -/
def selectFor (i : Instr) (s : State) : State :=
  match i with
  | .reset | .envConf _ | .envTimer | .envBtn _ => s
  | .rxG => onlyRxPending 0x47#8 s
  | .rxP => onlyRxPending 0x50#8 s
  | .rxE => onlyRxPending 0x45#8 s
  | .rxX => onlyRxPending 0x58#8 s
  | .rxCr => onlyRxPending 0x0D#8 s
  | .rxLf => onlyRxPending 0x0A#8 s
  | .rxOrd b => onlyRxPending b s
  | .confSvc => { nonePending s with confPending := true }
  | .tick => { nonePending s with tickPending := true }
  | .txByte => mainTransmitting s
  | .scan k =>
    match buttonIndex k with
    | some j => mainAt (.scan j) s
    | none => s
  | .btnWaitEnd k =>
    match buttonIndex k with
    | some j => mainAt (.btnWait j) s
    | none => s
  | .potStart => mainAt .potStart s
  | .potRead => { mainAt .potWait s with adcBusy := false }
  | .confCheck => mainAt .confCheck s
  | .confWaitEnd => mainAt .confWait s
  | .envRx _ => { s with rxPending := false }
  | .envAdcDone _ => { s with adcBusy := true }
  | .envTxDone => { s with txEmpty := false }

end Sys2Proof.Machine
end

