-- ==== Sys2Proof/Machine/Step.lean ====
section
/-! DEFINITION. One step of the machine, and how a word is placed where the step takes its next one. -/

namespace Sys2Proof.Machine

/-- One atomic step (20_memory.md R79): the scheduled word's, or the block's own when none is scheduled. -/
def step (s : State) : Host.Outcome State Fault Refusal :=
  match s.sched with
  | [] => ownStep s
  | w :: rest => takeWord w rest s

/-- `s` with the word `w` as the next to run, selected as its operation needs (log entry 15). -/
def State.withFetchWord (s : State) (nbits w : Nat) : State :=
  match decodeTableWord nbits w with
  | some i => { selectFor i s with sched := BitVec.ofNat 24 w :: s.sched }
  | none => { s with sched := BitVec.ofNat 24 w :: s.sched }

end Sys2Proof.Machine
end

