-- ==== Sys2Proof/Safety.lean ====
section
/-! DEFINITION. The terms in which claims about WAM-IO are stated: the invariants of 10_state.md R51 and R48, the trace
properties of PT and TXS, the line machine the receive parser refines, the MAIN phase table, runs and fairness. -/

namespace Sys2Proof.Safety

open Sys2Proof.Machine

/-- `k` steps, stopping at the first fault or refusal (the finite prefixes of 70_reset_and_hazards.md R343). -/
def runSteps : Nat → State → Result
  | 0, s => .next s
  | k + 1, s => andThen (step s) (runSteps k)

/-- The operations one after another, stopping at the first fault or refusal. -/
def execAll : List Instr → State → Result
  | [], s => .next s
  | i :: is, s => andThen (exec i s) (execAll is)

/-- The receive services (30_encoding.md R111, class 0x01). -/
def isReceive : Instr → Bool
  | .rxG | .rxP | .rxE | .rxX | .rxCr | .rxLf | .rxOrd _ => true
  | .reset | .confSvc | .tick | .txByte | .scan _ | .btnWaitEnd _ | .potStart | .potRead | .confCheck | .confWaitEnd
  | .envRx _ | .envConf _ | .envTimer | .envAdcDone _ | .envTxDone | .envBtn _ => false

/-- What holds in every reachable state: 10_state.md R51, with R38 (the LED lines decode `led`), R48 (bounds of tx_line and
tx_idx) and 44_sequencer.md R261 (the continuations a TX phase can have). -/
structure Inv (s : State) : Prop where
  digit_le : ∀ k : Fin 4, s.disp[k].toNat ≤ 9
  rxLen_le : s.rxLen.toNat ≤ 9
  lines_decode : s.ledG = s.led.lineG ∧ s.ledY = s.led.lineY ∧ s.ledR = s.led.lineR
  digEn_blank_or_last : s.digEn = 0#4 ∨ s.digEn = onehot4 (s.cursor + 3)
  txLine_le : s.txLine.length ≤ 15
  txIdx_le : s.txIdx ≤ s.txLine.length
  tx_byte_left : ∀ n, s.phase = .tx n → s.txIdx < s.txLine.length
  tx_next : ∀ n, s.phase = .tx n →
    n = .scan 0 ∨ (∃ i, n = .btnWait i) ∨ n = .confCheck ∨ n = .confWait

/-- The value dig_en has after the port writes of a trace that began with it blank (10_state.md R38). -/
def lastDigEn (pt : List PortEvent) : BitVec 4 :=
  pt.foldl (fun v e => match e with | .digEn x => x | .segN _ => v | .leds _ _ _ => v) 0#4

/-- The value seg_n has after the port writes of a trace that began at 0xFF (10_state.md R38). -/
def lastSegN (pt : List PortEvent) : BitVec 8 :=
  pt.foldl (fun v e => match e with | .segN x => x | .digEn _ => v | .leds _ _ _ => v) 0xFF#8

/-- The values of the three indicator lines after the port writes of a trace that began with all off (10_state.md R38). -/
def lastLeds (pt : List PortEvent) : Bool × Bool × Bool :=
  pt.foldl (fun v e => match e with | .leds g y r => (g, y, r) | .digEn _ => v | .segN _ => v) (false, false, false)

/-- PT records every output-port write: the ports hold what replaying it gives (00_scope.md R14, 10_state.md R38, R39). -/
def PortsFollowTrace (s : State) : Prop :=
  s.digEn = lastDigEn s.pt ∧ s.segN = lastSegN s.pt ∧ (s.ledG, s.ledY, s.ledR) = lastLeds s.pt

/-- Every write of seg_n in PT happens while dig_en is blank (40_display_mux.md R133). -/
def NoGhosting (pt : List PortEvent) : Prop :=
  ∀ before v after, pt = before ++ PortEvent.segN v :: after → lastDigEn before = 0#4

/-- The four kinds of line the block transmits (30_encoding.md R97). -/
inductive EventLine where
  | boot
  | pot (v : BitVec 10)
  | button (i : Fin 9)
  | confirm
  deriving DecidableEq, Repr

/-- The bytes of an event line, LINE_END included (30_encoding.md R97). -/
def EventLine.bytes : EventLine → List Byte
  | .boot => bootText ++ lineEnd
  | .pot v => potText v ++ lineEnd
  | .button i => buttonText i ++ lineEnd
  | .confirm => confirmText ++ lineEnd

/-- Where MAIN goes after a line (44_sequencer.md R261, R264). -/
def EventLine.continuation : EventLine → LoopPhase
  | .boot => .scan 0
  | .pot _ => .confCheck
  | .button i => .btnWait i
  | .confirm => .confWait

/-- TXS is the boot line, then whole event lines, then the part already loaded of the line in progress
(42_serial_tx.md R203, R204). -/
def TxStream (s : State) : Prop :=
  ∃ events : List EventLine, EventLine.boot ∉ events ∧
    match s.phase with
    | .loop _ => s.txs = (EventLine.boot :: events).flatMap EventLine.bytes
    | .tx next => ∃ done current, done ++ [current] = EventLine.boot :: events ∧
        s.txLine = current.bytes ∧ next = current.continuation ∧ s.txIdx < s.txLine.length ∧
        s.txs = done.flatMap EventLine.bytes ++ s.txLine.take s.txIdx

/-- The receive parser as a line machine: the line in progress as a byte string, the indicator and the digits
(41_serial_rx.md, "one state (Accumulating)"). -/
structure ParserView where
  line : List Byte
  led : Led
  disp : Vector (BitVec 4) 4
  deriving DecidableEq, Repr

/-- What the machine's state is as a line machine. -/
def parserView (s : State) : ParserView := { line := s.line, led := s.led, disp := s.disp }

/-- One byte in the line machine (41_serial_rx.md R161 to R168): at most the first nine ordinary bytes are kept. -/
def parseByte (v : ParserView) (b : Byte) : ParserView :=
  match classify b with
  | .g => { v with line := [], led := .green }
  | .p => { v with line := [], led := .yellow }
  | .e => { v with line := [], led := .red }
  | .x => { v with line := [], led := .off, disp := scoreDigits 0 }
  | .cr | .lf =>
    { v with line := [], disp := if isScoreLine v.line then scoreDigits (dec (v.line.drop 4)) else v.disp }
  | .ordinary => { v with line := (v.line ++ [b]).take 9 }

/-- SEND "s": one arrival and one dispatch per byte (30_encoding.md R113). -/
def sendWords (bytes : List Byte) : List OpWord :=
  bytes.flatMap fun b => [encode (.envRx b), encode (rxInstr b)]

/-- TICKS n: one expiry and one dispatch per tick (95_test_vectors.md, trace shorthand). -/
def tickWords (n : Nat) : List OpWord :=
  (List.replicate n [encode .envTimer, encode .tick]).flatten

/-- The rows of the phase transition table (44_sequencer.md R261): phase, operation, next phase. -/
inductive PhaseRow : Phase → Instr → Phase → Prop where
  | txMore (n) : PhaseRow (.tx n) .txByte (.tx n)
  | txDone (n) : PhaseRow (.tx n) .txByte (.loop n)
  | scanReport (i : Fin 9) : PhaseRow (.loop (.scan i)) (.scan (BitVec.ofNat 4 i.val)) (.tx (.btnWait i))
  | scanPass (i : Fin 9) : PhaseRow (.loop (.scan i)) (.scan (BitVec.ofNat 4 i.val)) (.loop (afterButton i))
  | btnWaitEnd (i : Fin 9) : PhaseRow (.loop (.btnWait i)) (.btnWaitEnd (BitVec.ofNat 4 i.val)) (.loop (afterButton i))
  | potStart : PhaseRow (.loop .potStart) .potStart (.loop .potWait)
  | potReport : PhaseRow (.loop .potWait) .potRead (.tx .confCheck)
  | potPass : PhaseRow (.loop .potWait) .potRead (.loop .confCheck)
  | confReport : PhaseRow (.loop .confCheck) .confCheck (.tx .confWait)
  | confPass : PhaseRow (.loop .confCheck) .confCheck (.loop (.scan 0))
  | confWaitEnd : PhaseRow (.loop .confWait) .confWaitEnd (.loop (.scan 0))

/-- MAIN has no enabled step: it busy-waits for the shift register or for the conversion (42_serial_tx.md R200,
43_input_sampler.md R241). -/
def MainWaits (s : State) : Prop :=
  ((∃ n, s.phase = .tx n) ∧ s.txEmpty = false) ∨ (s.phase = .loop .potWait ∧ s.adcBusy = true)

/-- The two states agree on every value a rule may read (70_reset_and_hazards.md R335): they differ at most in rx_buf cells
outside the line, in rx_data while rx_pending is 0, and in adc_data where POT_READ cannot run on it. -/
def AgreeWhereReadable (s t : State) : Prop :=
  t = { s with rxBuf := t.rxBuf, rxData := t.rxData, adcData := t.adcData } ∧
  s.line = t.line ∧
  (s.rxPending = true → s.rxData = t.rxData) ∧
  (s.phase = .loop .potWait → s.adcBusy = false → s.adcData = t.adcData)

/-- Same kind of outcome, and related next states. -/
def ResultRel (R : State → State → Prop) (a b : Result) : Prop :=
  match a, b with
  | .next s, .next t => R s t
  | .fault e, .fault f => e = f
  | .refused e, .refused f => e = f
  | _, _ => False

/-- The two states agree on what MAIN reads (60_exceptions.md R292): MAIN's own fields, confirm_flag, the ports it polls and
whether a source is pending. -/
def AgreeForMain (s t : State) : Prop :=
  s.phase = t.phase ∧ s.txLine = t.txLine ∧ s.txIdx = t.txIdx ∧ s.btnLatch = t.btnLatch ∧ s.lastPot = t.lastPot ∧
  s.confirmFlag = t.confirmFlag ∧ s.txEmpty = t.txEmpty ∧ s.adcBusy = t.adcBusy ∧ s.adcData = t.adcData ∧
  s.btnN = t.btnN ∧ s.anyPending = t.anyPending

/-- s takes exactly the words ws, one operation or one DISPATCH, to t (00_scope.md R10, 20_memory.md R79). -/
def Takes (s : State) (ws : List OpWord) (t : State) : Prop :=
  ws ≠ [] ∧ t.sched = [] ∧ step { s with sched := ws } = .next t

/-- An infinite run: states and the words taken between them (70_reset_and_hazards.md R343). -/
def IsRun (states : Nat → State) (words : Nat → List OpWord) : Prop :=
  ∀ n, (states n).sched = [] ∧ Takes (states n) (words n) (states (n + 1))

/-- The fairness assumption of the untimed model (70_reset_and_hazards.md R342): a pending source is dispatched, a MAIN
operation that stays enabled is taken, and the display timer expires infinitely often. "Stays enabled" is read of MAIN's
phase and guard in the phase table: the DISPATCHes in between, which (c) makes never-ending, do not count against it, or (b)
would force nothing, and 44_sequencer.md R265 says that it ends every wait (log entry 20). -/
structure Fair (states : Nat → State) (words : Nat → List OpWord) : Prop where
  dispatched : ∀ n, (states n).anyPending = true → ∃ m, n ≤ m ∧ words m = (states m).dueWords
  main_taken : ∀ i n, (∀ m, n ≤ m → (states m).mainOp = some i) → ∃ m, n ≤ m ∧ words m = [encode i]
  timer_expires : ∀ n, ∃ m, n ≤ m ∧ words m = [encode .envTimer]

end Sys2Proof.Safety
end

