-- ==== Sys2Proof/Certificates/Slice0/Obligations.lean ====
section
/-! DEFINITION. The statements for the provers. "stated" ones formalise rules of spec/ that carry no decision or derivation
mark; where a statement rests on a SPEC CHOICE, on a derived rule or on the model's own choice, its docstring says so. -/

open Sys2Proof Sys2Proof.Machine Sys2Proof.Safety

/-! Operation words. -/

/-- Operations and words agree both ways: decoding the word of a well-formed operation gives it back, at every operand, and a
word that decodes is the word of the well-formed operation it decodes to (SPEC CHOICE D27: the encoding). -/
def Obligations.EncodingRoundTrips : Prop :=
  (∀ i : Instr, i.wellFormed = true → decode (encode i) = .ok i) ∧
  (∀ (w : OpWord) (i : Instr), decode w = .ok i → i.wellFormed = true ∧ encode i = w)

/-- The ill-formed words, written out class by class, are the ones decode rejects; step refuses them, and so do SCAN and
BTN_WAIT_END with an index above 8 (D27). -/
def Obligations.IllFormedWordsAreRefused : Prop :=
  (∀ w : OpWord, (∃ r, decode w = .error r) ↔
    ¬ ((w.toNat / 65536 ∈ [0x00, 0x02, 0x03, 0x10, 0x13, 0x14, 0x15, 0x16, 0x22, 0x24] ∧ w.toNat % 65536 = 0) ∨
       (w.toNat / 65536 ∈ [0x01, 0x20] ∧ w.toNat % 65536 < 256) ∨
       (w.toNat / 65536 ∈ [0x11, 0x12] ∧ w.toNat % 65536 ≤ 8) ∨
       (w.toNat / 65536 = 0x21 ∧ w.toNat % 65536 < 2) ∨
       (w.toNat / 65536 = 0x23 ∧ w.toNat % 65536 < 1024) ∨
       (w.toNat / 65536 = 0x25 ∧ w.toNat % 65536 < 512))) ∧
  (∀ (s : State) (w : OpWord) (rest : List OpWord) (r : Reject), s.sched = w :: rest → decode w = .error r →
    step s = .refused (.illFormed w)) ∧
  (∀ (s : State) (k : BitVec 4), 9 ≤ k.toNat →
    exec (.scan k) s = .refused (.illFormed (encode (.scan k))) ∧
    exec (.btnWaitEnd k) s = .refused (.illFormed (encode (.btnWaitEnd k))))

/-- Words written out from the class table and from the test vectors decode to their operations (D27). -/
def Obligations.SpecWordsDecode : Prop :=
  decode 0x000000#24 = .ok .reset ∧ decode 0x010047#24 = .ok .rxG ∧ decode 0x01000D#24 = .ok .rxCr ∧
  decode 0x010067#24 = .ok (.rxOrd 0x67#8) ∧ decode 0x020000#24 = .ok .confSvc ∧ decode 0x030000#24 = .ok .tick ∧
  decode 0x110008#24 = .ok (.scan 8#4) ∧ decode 0x2303FF#24 = .ok (.envAdcDone 1023#10) ∧
  decode 0x2501F7#24 = .ok (.envBtn 0x1F7#9) ∧ decode 0x110009#24 = .error .indexAboveEight ∧
  decode 0x040000#24 = .error .unknownClass ∧ decode 0x030001#24 = .error .operandBits

/-! Steps. -/

/-- A step runs the scheduled word's operation, on the state with that word taken off the schedule; service words are the
next statement's. `sched` is the model's own field (log entry 1). -/
def Obligations.StepRunsScheduledWord : Prop :=
  ∀ (s : State) (w : OpWord) (rest : List OpWord) (i : Instr),
    s.sched = w :: rest → decode w = .ok i → i.agent ≠ .isr → step s = exec i { s with sched := rest }

/-- A scheduled DISPATCH is one step that runs the services the pending flags select, receive then confirm then tick; a
service word that does not begin exactly that list has no step (SPEC CHOICES D22, D27; log entry 5). -/
def Obligations.StepRunsScheduledDispatch : Prop :=
  (∀ (s : State) (rest : List OpWord) (due : List Instr),
    due = (if s.rxPending then [rxInstr s.rxData] else []) ++ (if s.confPending then [.confSvc] else []) ++
      (if s.tickPending then [.tick] else []) →
    due ≠ [] → s.sched = due.map encode ++ rest → step s = execAll due { s with sched := rest }) ∧
  (∀ (s : State) (w : OpWord) (rest : List OpWord) (i : Instr) (due : List Instr),
    due = (if s.rxPending then [rxInstr s.rxData] else []) ++ (if s.confPending then [.confSvc] else []) ++
      (if s.tickPending then [.tick] else []) →
    s.sched = w :: rest → decode w = .ok i → i.agent = .isr →
    (due = [] ∨ ∀ r, s.sched ≠ due.map encode ++ r) → step s = .refused .dispatchNotEnabled)

/-- With nothing scheduled the block moves alone: DISPATCH while a source is pending, else MAIN's enabled operation, else
MAIN waits and nothing changes. That it waits in place is the model's choice (log entry 2); D22 gives the precedence. -/
def Obligations.StepWithNothingScheduled : Prop :=
  ∀ s : State, s.sched = [] →
    (∀ due : List Instr,
      due = (if s.rxPending then [rxInstr s.rxData] else []) ++ (if s.confPending then [.confSvc] else []) ++
        (if s.tickPending then [.tick] else []) →
      due ≠ [] → step s = execAll due s) ∧
    (∀ (i : Instr) (t : State), i.agent = .main → exec i s = .next t → step s = .next t) ∧
    (s.rxPending = false → s.confPending = false → s.tickPending = false → MainWaits s → step s = .next s)

/-! The display multiplexer. -/

/-- TICK blanks, drives the digit's pattern, enables exactly its position and advances, in that order; without a pending
tick it does not run, and neither does a scheduled TICK. The effects are R130's; that TICK's meaning also clears tick_pending
is log entry 6 (R285, SPEC CHOICE D22), and the scheduled word is log entry 5. -/
def Obligations.TickDrivesOneDigit : Prop :=
  encode .tick = 0x030000#24 ∧
  ∀ s : State,
    (s.tickPending = true →
      exec .tick s = .next { s with
        tickPending := false
        digEn := 1#4 <<< s.cursor.val
        segN := segOf s.disp[s.cursor]
        cursor := s.cursor + 1
        pt := s.pt ++ [.digEn 0#4, .segN (segOf s.disp[s.cursor]), .digEn (1#4 <<< s.cursor.val)] }) ∧
    (s.tickPending = false → exec .tick s = .refused (.notEnabled .tick)) ∧
    (∀ rest, s.sched = encode .tick :: rest → s.tickPending = false → step s = .refused .dispatchNotEnabled)

/-- seg_of clamps its index to 9, drives the table's pattern and never lights the decimal point (SPEC CHOICES D3, D5; the
table is the parameter of D4). -/
def Obligations.SegLookupClampsAndKeepsPointOff : Prop :=
  (∀ v : BitVec 4, 9 ≤ v.toNat → segOf v = segOf 9#4) ∧
  (∀ v : BitVec 4, (segOf v).getLsbD 7 = true) ∧
  (∀ d : Fin 10, (segOf (BitVec.ofNat 4 d.val)).setWidth 7 = Config.segPatterns[d])

/-- UPDATE_SCORE writes the four digits of the score clamped to 9999, and nothing else. -/
def Obligations.UpdateScoreSplitsClampedScore : Prop :=
  ∀ (n : Nat) (s : State), ∃ t, updateScore n s = t ∧
    t.disp[0].toNat = min n 9999 / 1000 ∧
    t.disp[1].toNat = min n 9999 / 100 % 10 ∧
    t.disp[2].toNat = min n 9999 / 10 % 10 ∧
    t.disp[3].toNat = min n 9999 % 10 ∧
    t = { s with disp := t.disp }

/-- The digits UPDATE_SCORE leaves reconstruct the score, clamped, and are decimal (a derived rule of the spec: R141). -/
def Obligations.DigitsReconstructScore : Prop :=
  ∀ (n : Nat) (s : State),
    1000 * (updateScore n s).disp[0].toNat + 100 * (updateScore n s).disp[1].toNat +
      10 * (updateScore n s).disp[2].toNat + (updateScore n s).disp[3].toNat = min n 9999 ∧
    ∀ k : Fin 4, (updateScore n s).disp[k].toNat ≤ 9

/-- The output ports hold what replaying PT gives, in every step (SPEC CHOICE D1). -/
def Obligations.StepKeepsPortsFollowingTrace : Prop :=
  ∀ s t : State, PortsFollowTrace s → step s = .next t → PortsFollowTrace t

/-- No ghosting: every write of the segment bus happens with every digit blank, in every step (derived rule R133). -/
def Obligations.StepKeepsNoGhosting : Prop :=
  ∀ s t : State, NoGhosting s.pt → step s = .next t → NoGhosting t.pt

/-- n expiries, each dispatched, run n TICKs whose cursors go round with period 4 from where they were, whatever the digits,
and show the buffer's digits at those cursors (derived rules R134 and R82). -/
def Obligations.TicksCycleTheCursor : Prop :=
  ∀ (s : State) (n : Nat) (rest : List OpWord),
    s.rxPending = false → s.confPending = false → s.tickPending = false → s.sched = tickWords n ++ rest →
    ∃ t, runSteps (2 * n) s = .next t ∧
      t.cursor = Fin.ofNat 4 (s.cursor.val + n) ∧
      t.pt = s.pt ++ (List.range n).flatMap (fun k =>
        [.digEn 0#4, .segN (segOf s.disp[Fin.ofNat 4 (s.cursor.val + k)]),
          .digEn (onehot4 (Fin.ofNat 4 (s.cursor.val + k)))]) ∧
      t = { s with cursor := t.cursor, segN := t.segN, digEn := t.digEn, pt := t.pt,
                   timerPeriods := t.timerPeriods, sched := rest }

/-- In every fair run without a power cycle, every display position is lit again and again, MAIN's operation for its phase
is taken before the phase moves, and every debounce wait ends (derived from R342, R135 and R265, SPEC CHOICES D21, D22; a
run's words are log entry 1, what fairness asks of MAIN log entry 20, that a wait can end at any time log entry 12). -/
def Obligations.FairRunsLightEveryPositionAndTakeMain : Prop :=
  ∀ (states : Nat → State) (words : Nat → List OpWord),
    IsRun states words → Fair states words → (∀ n, words n ≠ [encode .reset]) →
    (∀ (c : Fin 4) (n : Nat), ∃ m, n ≤ m ∧ (states m).digEn = onehot4 c) ∧
    (∀ (n : Nat) (i : Instr), (states n).mainOp = some i →
      ∃ m, n ≤ m ∧ words m = [encode i] ∧ ∀ k, n ≤ k → k ≤ m → (states k).phase = (states n).phase) ∧
    (∀ (n : Nat) (i : Fin 9), (states n).phase = .loop (.btnWait i) →
      ∃ m, n < m ∧ (states m).phase = .loop (afterButton i)) ∧
    (∀ n : Nat, (states n).phase = .loop .confWait →
      ∃ m, n < m ∧ (states m).phase = .loop (.scan 0) ∧ (states m).confirmFlag = false)

/-! Serial receive. -/

/-- RX_G, RX_P and RX_E light their indicator alone, discard the line in progress and write nothing else (R161 to R163; the
LED lines by R142); without their byte pending they do not run (R112, SPEC CHOICE D27). The clear of rx_pending is R160's
RxTake, and that it and the guard are part of the meaning is log entry 6; exact matching of the byte is SPEC CHOICE D11. -/
def Obligations.ControlBytesSetOneIndicator : Prop :=
  encode .rxG = 0x010047#24 ∧ encode .rxP = 0x010050#24 ∧ encode .rxE = 0x010045#24 ∧
  ∀ s : State,
    (s.rxPending = true → s.rxData = 0x47#8 →
      exec .rxG s = .next { s with
        rxPending := false, led := .green, ledG := true, ledY := false, ledR := false
        pt := s.pt ++ [.leds true false false], rxLen := 0#4 }) ∧
    (s.rxPending = true → s.rxData = 0x50#8 →
      exec .rxP s = .next { s with
        rxPending := false, led := .yellow, ledG := false, ledY := true, ledR := false
        pt := s.pt ++ [.leds false true false], rxLen := 0#4 }) ∧
    (s.rxPending = true → s.rxData = 0x45#8 →
      exec .rxE s = .next { s with
        rxPending := false, led := .red, ledG := false, ledY := false, ledR := true
        pt := s.pt ++ [.leds false false true], rxLen := 0#4 }) ∧
    (s.rxPending = false ∨ s.rxData ≠ 0x47#8 → exec .rxG s = .refused (.notEnabled .rxG)) ∧
    (s.rxPending = false ∨ s.rxData ≠ 0x50#8 → exec .rxP s = .refused (.notEnabled .rxP)) ∧
    (s.rxPending = false ∨ s.rxData ≠ 0x45#8 → exec .rxE s = .refused (.notEnabled .rxE))

/-- RX_X clears the indicators, zeroes the four digits, discards the line and writes nothing else (R164); without its byte
pending it does not run (R112, SPEC CHOICE D27). The clear of rx_pending is R160's RxTake, and that it and the guard are part
of the meaning is log entry 6; exact matching of the byte is SPEC CHOICE D11. -/
def Obligations.ClearByteZeroesScore : Prop :=
  encode .rxX = 0x010058#24 ∧
  ∀ s : State,
    (s.rxPending = true → s.rxData = 0x58#8 →
      exec .rxX s = .next { s with
        rxPending := false, led := .off, ledG := false, ledY := false, ledR := false
        pt := s.pt ++ [.leds false false false], disp := #v[0#4, 0#4, 0#4, 0#4], rxLen := 0#4 }) ∧
    (s.rxPending = false ∨ s.rxData ≠ 0x58#8 → exec .rxX s = .refused (.notEnabled .rxX))

/-- RX_ORD appends an ordinary byte below nine bytes and drops it beyond; a control byte or terminator is no RX_ORD (R165;
which bytes are ordinary: R90 and R91, SPEC CHOICES D10, D11 and D13, log entry 18; the clear of rx_pending is R160's RxTake,
and that it and the guard are part of the meaning is log entry 6). -/
def Obligations.OrdinaryByteIsKeptOrDropped : Prop :=
  ∀ (s : State) (b : Byte),
    (b ∉ [0x47#8, 0x50#8, 0x45#8, 0x58#8, 0x0D#8, 0x0A#8] → encode (.rxOrd b) = 0x010000#24 + b.setWidth 24) ∧
    (b ∉ [0x47#8, 0x50#8, 0x45#8, 0x58#8, 0x0D#8, 0x0A#8] → s.rxPending = true → s.rxData = b →
      (∀ h : s.rxLen.toNat < 9, exec (.rxOrd b) s = .next { s with
        rxPending := false, rxBuf := s.rxBuf.set s.rxLen.toNat b h, rxLen := BitVec.ofNat 4 (s.rxLen.toNat + 1) }) ∧
      (9 ≤ s.rxLen.toNat → exec (.rxOrd b) s = .next { s with rxPending := false })) ∧
    (b ∈ [0x47#8, 0x50#8, 0x45#8, 0x58#8, 0x0D#8, 0x0A#8] ∨ s.rxPending = false ∨ s.rxData ≠ b →
      exec (.rxOrd b) s = .refused (.notEnabled (.rxOrd b)))

/-- RX_CR and RX_LF take the line, clear it, and apply it when it is a valid score line: at least five bytes, "SCR:", then
digits only; any other line is discarded with nothing written (R166 to R168, SPEC CHOICES D10, D12); without their byte
pending they do not run (R112, SPEC CHOICE D27). The clear of rx_pending is R160's RxTake, and that it and the guard are part
of the meaning is log entry 6. -/
def Obligations.TerminatorEvaluatesLine : Prop :=
  encode .rxCr = 0x01000D#24 ∧ encode .rxLf = 0x01000A#24 ∧
  ∀ (s : State) (i : Instr) (b : Byte) (line : List Byte),
    (i = .rxCr ∧ b = 0x0D#8) ∨ (i = .rxLf ∧ b = 0x0A#8) → line = s.rxBuf.toList.take s.rxLen.toNat →
    (s.rxPending = true → s.rxData = b →
      (5 ≤ line.length ∧ line.take 4 = [0x53#8, 0x43#8, 0x52#8, 0x3A#8] ∧
          (∀ c ∈ line.drop 4, 0x30 ≤ c.toNat ∧ c.toNat ≤ 0x39) →
        exec i s = .next { s with
          rxPending := false, rxLen := 0#4, disp := scoreDigits (dec (line.drop 4)) }) ∧
      (¬ (5 ≤ line.length ∧ line.take 4 = [0x53#8, 0x43#8, 0x52#8, 0x3A#8] ∧
          (∀ c ∈ line.drop 4, 0x30 ≤ c.toNat ∧ c.toNat ≤ 0x39)) →
        exec i s = .next { s with rxPending := false, rxLen := 0#4 })) ∧
    (s.rxPending = false ∨ s.rxData ≠ b → exec i s = .refused (.notEnabled i))

/-- No receive operation transmits: their only effects are on led, the LED lines, disp, rx_buf, rx_len, rx_pending and PT. -/
def Obligations.ReceiveMachineNeverTransmits : Prop :=
  ∀ (i : Instr) (s t : State), isReceive i = true → exec i s = .next t →
    t = { s with led := t.led, ledG := t.ledG, ledY := t.ledY, ledR := t.ledR, disp := t.disp,
                 rxBuf := t.rxBuf, rxLen := t.rxLen, rxPending := t.rxPending, pt := t.pt }

/-- Any bytes sent one by one run to the end, and leave what the line machine gives: the buffer with its stale cells and its
length refines a byte string of at most nine bytes (derived from R160 to R168; SPEC CHOICES D10 to D13, D23). -/
def Obligations.ParserRefinesLineMachine : Prop :=
  ∀ (s : State) (bytes : List Byte) (rest : List OpWord),
    s.rxPending = false → s.confPending = false → s.tickPending = false → s.rxLen.toNat ≤ 9 →
    s.sched = sendWords bytes ++ rest →
    ∃ t, runSteps (2 * bytes.length) s = .next t ∧
      parserView t = bytes.foldl parseByte (parserView s) ∧
      t.rxPending = false ∧ t.rxLen.toNat ≤ 9 ∧
      t = { s with led := t.led, ledG := t.ledG, ledY := t.ledY, ledR := t.ledR, disp := t.disp, rxBuf := t.rxBuf,
                   rxLen := t.rxLen, rxData := t.rxData, pt := t.pt, sched := rest }

/-- "SCR:", one to five digits and a terminator, sent on an empty line, set the digits of the number, clamped, and change
neither the indicators nor either trace (derived rule R173; SPEC CHOICES D10, D12). -/
def Obligations.ScoreLineSetsDigits : Prop :=
  ∀ (s : State) (digits : List Byte) (term : Byte) (rest : List OpWord),
    s.rxPending = false → s.confPending = false → s.tickPending = false → s.rxLen = 0#4 →
    1 ≤ digits.length → digits.length ≤ 5 → (∀ b ∈ digits, 0x30 ≤ b.toNat ∧ b.toNat ≤ 0x39) →
    term = 0x0D#8 ∨ term = 0x0A#8 →
    s.sched = sendWords ([0x53#8, 0x43#8, 0x52#8, 0x3A#8] ++ digits ++ [term]) ++ rest →
    ∃ t, runSteps (2 * (digits.length + 5)) s = .next t ∧
      t.disp = scoreDigits (dec digits) ∧ t.rxLen = 0#4 ∧
      t = { s with disp := t.disp, rxBuf := t.rxBuf, rxLen := t.rxLen, rxData := t.rxData, sched := rest }

/-- Any number of ordinary bytes and a terminator, sent on an empty line, are evaluated as their first nine bytes (derived
rule R170; SPEC CHOICES D10, D12). -/
def Obligations.OverlongLineKeepsNineBytes : Prop :=
  ∀ (s : State) (bytes : List Byte) (term : Byte) (rest : List OpWord),
    s.rxPending = false → s.confPending = false → s.tickPending = false → s.rxLen = 0#4 →
    (∀ b ∈ bytes, b ∉ [0x47#8, 0x50#8, 0x45#8, 0x58#8, 0x0D#8, 0x0A#8]) →
    term = 0x0D#8 ∨ term = 0x0A#8 →
    s.sched = sendWords (bytes ++ [term]) ++ rest →
    ∃ t, runSteps (2 * (bytes.length + 1)) s = .next t ∧
      t.disp = (if isScoreLine (bytes.take 9) then scoreDigits (dec ((bytes.take 9).drop 4)) else s.disp) ∧
      t.rxLen = 0#4 ∧ t.led = s.led ∧ t.txs = s.txs

/-- After a control byte or a terminator the line is empty, so whatever two machines held before it, if they agree on the
indicator and the digits then, they agree after any further bytes (derived rules R169, R171). -/
def Obligations.ControlOrTerminatorResynchronises : Prop :=
  ∀ (s1 s2 : State) (c : Byte) (bytes : List Byte),
    (∀ s ∈ [s1, s2], s.rxPending = false ∧ s.confPending = false ∧ s.tickPending = false ∧ s.rxLen.toNat ≤ 9 ∧
      s.sched = sendWords (c :: bytes)) →
    c ∈ [0x47#8, 0x50#8, 0x45#8, 0x58#8, 0x0D#8, 0x0A#8] →
    ∃ u1 u2 t1 t2, runSteps 2 s1 = .next u1 ∧ runSteps 2 s2 = .next u2 ∧ u1.rxLen = 0#4 ∧ u2.rxLen = 0#4 ∧
      runSteps (2 * bytes.length) u1 = .next t1 ∧ runSteps (2 * bytes.length) u2 = .next t2 ∧
      (u1.led = u2.led → u1.disp = u2.disp → t1.led = t2.led ∧ t1.disp = t2.disp)

/-- dec is the positional value of a digit string, and fmt_dec writes the shortest one: digits only, no leading zero
(R12, whose ASCII codes are general knowledge). -/
def Obligations.DecimalTextIsExact : Prop :=
  (∀ s : List Byte, dec s =
    ∑ k ∈ Finset.range s.length, ((s.getD k 0#8).toNat - 0x30) * 10 ^ (s.length - 1 - k)) ∧
  (∀ n : Nat, dec (fmtDec n) = n ∧ fmtDec n ≠ [] ∧ (∀ b ∈ fmtDec n, 0x30 ≤ b.toNat ∧ b.toNat ≤ 0x39)) ∧
  (∀ (n : Nat) (s : List Byte), s ≠ [] → (∀ b ∈ s, 0x30 ≤ b.toNat ∧ b.toNat ≤ 0x39) → dec s = n →
    (fmtDec n).length ≤ s.length)

/-! Serial transmit. -/

/-- TX_BYTE loads the next byte of the line and leaves TX right after the last one; while tx_empty is 0 in TX, MAIN has no
enabled operation at all, and only ENV_TX_DONE or a power cycle ends that. -/
def Obligations.TxByteLoadsNextByte : Prop :=
  encode .txByte = 0x100000#24 ∧
  ∀ s : State,
    (∀ (next : LoopPhase) (h : s.txIdx < s.txLine.length), s.phase = .tx next → s.txEmpty = true →
        s.rxPending = false → s.confPending = false → s.tickPending = false →
      (s.txIdx + 1 < s.txLine.length → exec .txByte s = .next { s with
        txs := s.txs ++ [s.txLine[s.txIdx]], txEmpty := false, txIdx := s.txIdx + 1 }) ∧
      (s.txIdx + 1 = s.txLine.length → exec .txByte s = .next { s with
        txs := s.txs ++ [s.txLine[s.txIdx]], txEmpty := false, txIdx := s.txIdx + 1, phase := .loop next })) ∧
    (s.txEmpty = false → exec .txByte s = .refused (.notEnabled .txByte)) ∧
    (∀ next i t, s.phase = .tx next → s.txEmpty = false → i.agent = .main → exec i s ≠ .next t) ∧
    (∀ i t, s.txEmpty = false → exec i s = .next t → t.txEmpty = true → i = .envTxDone ∨ i = .reset) ∧
    (∀ p, s.phase = .loop p → exec .txByte s = .refused (.notEnabled .txByte))

/-- TX_BYTE with tx_idx outside tx_line stops with the model's one fault; no run reaches such a state (the model's choice,
log entry 13). -/
def Obligations.TxIndexOutsideLineFaults : Prop :=
  ∀ (s : State) (next : LoopPhase), s.phase = .tx next → s.txEmpty = true →
    s.rxPending = false → s.confPending = false → s.tickPending = false → s.txLine.length ≤ s.txIdx →
    exec .txByte s = .fault .txIndexOutOfRange

/-- Lines never interleave: in every step TXS stays the boot line, then whole event lines, then the loaded part of the line
in progress (derived rule R204; SPEC CHOICES D14, D26). -/
def Obligations.StepKeepsTxStream : Prop :=
  ∀ s t : State, TxStream s → step s = .next t → TxStream t

/-- A host can parse the transmit stream in one way only (derived rule R99; SPEC CHOICES D14, D15, D32). -/
def Obligations.EventLinesParseUniquely : Prop :=
  ∀ xs ys : List EventLine, xs.flatMap EventLine.bytes = ys.flatMap EventLine.bytes → xs = ys

/-- A transport stall is a hang: without ENV_TX_DONE and without a power cycle MAIN stays in TX, loads nothing and scans
nothing, while a pending source can still be dispatched (derived rule R206; log entries 1 and 2). -/
def Obligations.TransmitStallHangsMain : Prop :=
  ∀ (s t : State) (next : LoopPhase) (k : Nat),
    s.phase = .tx next → s.txEmpty = false →
    (∀ w ∈ s.sched, w ≠ encode .envTxDone ∧ w ≠ encode .reset) → runSteps k s = .next t →
    t.phase = .tx next ∧ t.txEmpty = false ∧ t.txs = s.txs ∧ t.txLine = s.txLine ∧ t.txIdx = s.txIdx ∧
      t.btnLatch = s.btnLatch ∧ t.lastPot = s.lastPot ∧ (s.confirmFlag = true → t.confirmFlag = true) ∧
      (t.sched = [] → ∃ u, step t = .next u)

/-- A conversion stall is a hang: without ENV_ADC_DONE and without a power cycle MAIN stays in POT_WAIT, emits nothing and
never clears confirm_flag, while the ISR services keep running (R243; the runs and the block's own step with nothing
scheduled are log entries 1 and 2). -/
def Obligations.ConversionStallHangsMain : Prop :=
  ∀ (s t : State) (k : Nat),
    s.phase = .loop .potWait → s.adcBusy = true →
    (∀ w ∈ s.sched, (∀ v, w ≠ encode (.envAdcDone v)) ∧ w ≠ encode .reset) → runSteps k s = .next t →
    t.phase = .loop .potWait ∧ t.adcBusy = true ∧ t.txs = s.txs ∧ t.txLine = s.txLine ∧
      (s.confirmFlag = true → t.confirmFlag = true) ∧
      ((t.rxPending = true ∨ t.confPending = true ∨ t.tickPending = true) → t.sched = [] →
        ∃ u, step t = .next u ∧ u.rxPending = false ∧ u.confPending = false ∧ u.tickPending = false)

/-- The transmitter runs in MAIN only: no ISR service touches TXS, tx_empty or the line in progress, and outside a power
cycle only MAIN's operations load a byte or start a line. -/
def Obligations.OnlyMainTransmits : Prop :=
  ∀ (i : Instr) (s t : State), exec i s = .next t →
    (i.agent = .isr → t.txs = s.txs ∧ t.txEmpty = s.txEmpty ∧ t.txLine = s.txLine ∧ t.txIdx = s.txIdx ∧
      t.phase = s.phase) ∧
    (i ≠ .reset → (t.txs ≠ s.txs ∨ t.txLine ≠ s.txLine ∨ t.txIdx ≠ s.txIdx) → i.agent = .main)

/-! The input sampler. -/

/-- SCAN(i): a newly pressed button is latched and reported, a released or idle one clears its latch, a held one does
nothing; outside its phase SCAN(i) does not run. -/
def Obligations.ScanExaminesOneButton : Prop :=
  (∀ i : Fin 8, afterButton i.castSucc = .scan i.succ) ∧ afterButton 8 = .potStart ∧
  ∀ (s : State) (i : Fin 9),
    encode (.scan (BitVec.ofNat 4 i.val)) = BitVec.ofNat 24 (0x110000 + i.val) ∧
    (s.phase = .loop (.scan i) → s.rxPending = false → s.confPending = false → s.tickPending = false →
      (s.btnN.getLsbD i.val = false → s.btnLatch[i] = false →
        exec (.scan (BitVec.ofNat 4 i.val)) s = .next { s with
          btnLatch := s.btnLatch.set i true
          txLine := [0x42#8, 0x54#8, 0x4E#8, 0x3A#8, BitVec.ofNat 8 (0x30 + i.val), 0x0D#8, 0x0A#8]
          txIdx := 0
          phase := .tx (.btnWait i) }) ∧
      (s.btnN.getLsbD i.val = true →
        exec (.scan (BitVec.ofNat 4 i.val)) s = .next { s with
          btnLatch := s.btnLatch.set i false
          phase := .loop (afterButton i) }) ∧
      (s.btnN.getLsbD i.val = false → s.btnLatch[i] = true →
        exec (.scan (BitVec.ofNat 4 i.val)) s = .next { s with phase := .loop (afterButton i) })) ∧
    (s.phase ≠ .loop (.scan i) →
      exec (.scan (BitVec.ofNat 4 i.val)) s = .refused (.notEnabled (.scan (BitVec.ofNat 4 i.val))))

/-- No SCAN reads conf_n: with the confirm input at the other level it leaves the same state but for that input. And no step
of the confirm button's touches the nine latches or the nine polled inputs. -/
def Obligations.ScanIgnoresConfirmInput : Prop :=
  (∀ (s t : State) (k : BitVec 4) (level : Bool), exec (.scan k) s = .next t →
    exec (.scan k) { s with confN := level } = .next { t with confN := level }) ∧
  (∀ (s t : State) (i : Instr), i ∈ [.envConf false, .envConf true, .confSvc, .confCheck, .confWaitEnd] →
    exec i s = .next t → t.btnLatch = s.btnLatch ∧ t.btnN = s.btnN)

/-- BTN_WAIT_END(i) goes on after button i and writes only the phase (SPEC CHOICE D21: no length of the wait is modelled,
log entry 12). -/
def Obligations.BtnWaitEndResumesScan : Prop :=
  ∀ (s : State) (i : Fin 9),
    encode (.btnWaitEnd (BitVec.ofNat 4 i.val)) = BitVec.ofNat 24 (0x120000 + i.val) ∧
    (s.phase = .loop (.btnWait i) → s.rxPending = false → s.confPending = false → s.tickPending = false →
      exec (.btnWaitEnd (BitVec.ofNat 4 i.val)) s = .next { s with phase := .loop (afterButton i) }) ∧
    (s.phase ≠ .loop (.btnWait i) →
      exec (.btnWaitEnd (BitVec.ofNat 4 i.val)) s = .refused (.notEnabled (.btnWaitEnd (BitVec.ofNat 4 i.val))))

/-- CONF_SVC sets confirm_flag and does not read conf_n (R226); the dispatcher's clear of conf_pending goes with it (log entry
6; R285, SPEC CHOICE D22), and with no edge pending a scheduled CONF_SVC does not run either (log entry 5). -/
def Obligations.ConfSvcSetsFlag : Prop :=
  encode .confSvc = 0x020000#24 ∧
  ∀ s : State,
    (s.confPending = true → exec .confSvc s = .next { s with confPending := false, confirmFlag := true }) ∧
    (s.confPending = false → exec .confSvc s = .refused (.notEnabled .confSvc)) ∧
    (∀ rest, s.sched = encode .confSvc :: rest → s.confPending = false → step s = .refused .dispatchNotEnabled)

/-- CONF_CHECK reports a set flag and keeps it set, and starts the next iteration when it is clear (R230); MAIN comes to it
only from POT_READ or from the line that one started, which is the phase table's (derived rule R261). R230's "exactly once
per loop iteration" also needs the rest of that table. -/
def Obligations.ConfCheckReportsFlag : Prop :=
  encode .confCheck = 0x150000#24 ∧
  ∀ s : State,
    (s.phase = .loop .confCheck → s.rxPending = false → s.confPending = false → s.tickPending = false →
      (s.confirmFlag = true → exec .confCheck s = .next { s with
        txLine := [0x42#8, 0x54#8, 0x4E#8, 0x3A#8, 0x43#8, 0x4F#8, 0x4E#8, 0x46#8, 0x49#8, 0x52#8, 0x4D#8, 0x0D#8, 0x0A#8]
        txIdx := 0
        phase := .tx .confWait }) ∧
      (s.confirmFlag = false → exec .confCheck s = .next { s with phase := .loop (.scan 0) })) ∧
    (∀ i t, exec i s = .next t → t.phase = .loop .confCheck → i.agent = .main →
      i = .potRead ∨ (i = .txByte ∧ s.phase = .tx .confCheck)) ∧
    (s.phase ≠ .loop .confCheck → exec .confCheck s = .refused (.notEnabled .confCheck))

/-- CONF_WAIT_END clears confirm_flag and starts the next iteration (SPEC CHOICE D21: no length of the wait is modelled, log
entry 12). -/
def Obligations.ConfWaitEndClearsFlag : Prop :=
  encode .confWaitEnd = 0x160000#24 ∧
  ∀ s : State,
    (s.phase = .loop .confWait → s.rxPending = false → s.confPending = false → s.tickPending = false →
      exec .confWaitEnd s = .next { s with confirmFlag := false, phase := .loop (.scan 0) }) ∧
    (s.phase ≠ .loop .confWait → exec .confWaitEnd s = .refused (.notEnabled .confWaitEnd))

/-- POT_START starts one conversion and waits for it; no other operation starts one, and MAIN comes to POT_START only past
button 8, so at most one starts each time button 8 is passed (R240, whose "exactly one conversion per loop iteration" also
needs R220 and R261; no TX phase continues at POT_START: Inv). -/
def Obligations.PotStartStartsConversion : Prop :=
  encode .potStart = 0x130000#24 ∧
  (∀ (i : Instr) (s t : State), exec i s = .next t →
    (s.adcBusy = false → t.adcBusy = true → i = .potStart) ∧
    (t.phase = .loop .potStart → s.phase ≠ .tx .potStart → i.agent = .main → i = .scan 8#4 ∨ i = .btnWaitEnd 8#4)) ∧
  ∀ s : State,
    (s.phase = .loop .potStart → s.rxPending = false → s.confPending = false → s.tickPending = false →
      exec .potStart s = .next { s with adcBusy := true, phase := .loop .potWait }) ∧
    (s.phase ≠ .loop .potStart → exec .potStart s = .refused (.notEnabled .potStart))

/-- POT_READ reports a reading that differs from the baseline by strictly more than POT_THRESHOLD, whatever that parameter
is, and makes it the baseline; a smaller difference or an equal one writes only the phase (SPEC CHOICES D15, D16). -/
def Obligations.PotReadReportsLargeChange : Prop :=
  encode .potRead = 0x140000#24 ∧
  ∀ s : State,
    (s.phase = .loop .potWait → s.adcBusy = false →
        s.rxPending = false → s.confPending = false → s.tickPending = false →
      (Config.potThreshold.toNat < ((s.adcData.toNat : Int) - (s.lastPot.toNat : Int)).natAbs →
        exec .potRead s = .next { s with
          lastPot := s.adcData
          txLine := [0x50#8, 0x4F#8, 0x54#8, 0x3A#8] ++ fmtDec s.adcData.toNat ++ [0x0D#8, 0x0A#8]
          txIdx := 0
          phase := .tx .confCheck }) ∧
      (((s.adcData.toNat : Int) - (s.lastPot.toNat : Int)).natAbs ≤ Config.potThreshold.toNat →
        exec .potRead s = .next { s with phase := .loop .confCheck })) ∧
    (s.phase ≠ .loop .potWait ∨ s.adcBusy = true → exec .potRead s = .refused (.notEnabled .potRead))

/-- After every POT_READ the baseline is within POT_THRESHOLD of the reading, and it moved only if a line was started
(derived rule R242). -/
def Obligations.HysteresisBoundsBaseline : Prop :=
  ∀ s t : State, exec .potRead s = .next t →
    ((s.adcData.toNat : Int) - (t.lastPot.toNat : Int)).natAbs ≤ Config.potThreshold.toNat ∧
    (t.lastPot ≠ s.lastPot → t.phase = .tx .confCheck ∧ t.txLine = EventLine.bytes (.pot s.adcData))

/-! The sequencer. -/

/-- While any source is pending no MAIN operation runs (R262), and the step the block then takes by itself is DISPATCH, to its
end (SPEC CHOICE D22; that the block moves by itself with nothing scheduled is log entry 2). -/
def Obligations.MainRunsOnlyWithNothingPending : Prop :=
  ∀ s : State, (s.rxPending = true ∨ s.confPending = true ∨ s.tickPending = true) →
    (∀ i : Instr, i.agent = .main → i.wellFormed = true → exec i s = .refused (.notEnabled i)) ∧
    (s.sched = [] → ∃ t, step s = .next t ∧ dispatch s = .next t)

/-- MAIN has at most one enabled operation (derived rule R261). -/
def Obligations.AtMostOneMainOperation : Prop :=
  ∀ (s t u : State) (i j : Instr), i.agent = .main → j.agent = .main →
    exec i s = .next t → exec j s = .next u → i = j

/-- Every MAIN step is a row of the phase transition table, and nothing but MAIN and a power cycle moves the phase (derived
rule R261). -/
def Obligations.MainFollowsPhaseTable : Prop :=
  ∀ (s t : State) (i : Instr), exec i s = .next t →
    (i.agent = .main → PhaseRow s.phase i t.phase) ∧ (i.agent ≠ .main → i ≠ .reset → t.phase = s.phase)

/-- With nothing pending MAIN runs or waits, never both: it waits only for the shift register in TX or for the conversion
in POT_WAIT (derived rules R261, R206, R243). -/
def Obligations.MainRunsOrWaits : Prop :=
  ∀ s : State, Inv s → s.rxPending = false → s.confPending = false → s.tickPending = false →
    ((∃ i t, i.agent = .main ∧ exec i s = .next t) ↔ ¬ MainWaits s)

/-! The environment. -/

/-- ENV_RX delivers a byte when the previous one was serviced, and is no step before (SPEC CHOICE D23; log entry 16). -/
def Obligations.EnvRxDeliversOneByte : Prop :=
  ∀ (s : State) (b : Byte),
    encode (.envRx b) = 0x200000#24 + b.setWidth 24 ∧
    (s.rxPending = false → exec (.envRx b) s = .next { s with rxData := b, rxPending := true }) ∧
    (s.rxPending = true → exec (.envRx b) s = .refused (.notEnabled (.envRx b)))

/-- ENV_CONF raises the confirm source on a falling edge only, merges with a pending one, and sets the level. -/
def Obligations.EnvConfRaisesOnFallingEdge : Prop :=
  encode (.envConf false) = 0x210000#24 ∧ encode (.envConf true) = 0x210001#24 ∧
  ∀ s : State,
    (s.confN = true → exec (.envConf false) s = .next { s with confPending := true, confN := false }) ∧
    (s.confN = false → exec (.envConf false) s = .next s) ∧
    exec (.envConf true) s = .next { s with confN := true }

/-- ENV_TIMER, ENV_ADC_DONE and ENV_TX_DONE: what they set, and when the last two are no step (SPEC CHOICES D8, D33, D35;
the count of periods is the model's form of the timer's hidden count, log entry 11). -/
def Obligations.HardwareCompletionsSetTheirFlags : Prop :=
  encode .envTimer = 0x220000#24 ∧ encode .envTxDone = 0x240000#24 ∧
  ∀ (s : State) (v : BitVec 10),
    encode (.envAdcDone v) = 0x230000#24 + v.setWidth 24 ∧
    exec .envTimer s = .next { s with tickPending := true, timerPeriods := s.timerPeriods + 1 } ∧
    (s.adcBusy = true → exec (.envAdcDone v) s = .next { s with adcData := v, adcBusy := false }) ∧
    (s.adcBusy = false → exec (.envAdcDone v) s = .refused (.notEnabled (.envAdcDone v))) ∧
    (s.txEmpty = false → exec .envTxDone s = .next { s with txEmpty := true }) ∧
    (s.txEmpty = true → exec .envTxDone s = .refused (.notEnabled .envTxDone))

/-- ENV_BTN sets the raw button levels and raises no interrupt. -/
def Obligations.EnvBtnSetsButtons : Prop :=
  ∀ (s : State) (v : BitVec 9),
    encode (.envBtn v) = 0x250000#24 + v.setWidth 24 ∧ exec (.envBtn v) s = .next { s with btnN := v }

/-! Interrupts. -/

/-- DISPATCH with a source pending always completes; it services all of them, touches nothing but the ISR's fields, and its
TICK draws the digits its receive service left (SPEC CHOICE D22; derived rules R291, R293). -/
def Obligations.DispatchServicesEverySource : Prop :=
  ∀ s : State, (s.rxPending = true ∨ s.confPending = true ∨ s.tickPending = true) →
    ∃ t, dispatch s = .next t ∧
      t.rxPending = false ∧ t.confPending = false ∧ t.tickPending = false ∧
      (s.confPending = true → t.confirmFlag = true) ∧
      (s.tickPending = true → ∃ before, t.pt = before ++
        [.digEn 0#4, .segN (segOf t.disp[s.cursor]), .digEn (onehot4 s.cursor)] ∧ t.cursor = s.cursor + 1) ∧
      t = { s with rxPending := false, confPending := false, tickPending := false
                   disp := t.disp, led := t.led, ledG := t.ledG, ledY := t.ledY, ledR := t.ledR
                   rxBuf := t.rxBuf, rxLen := t.rxLen, cursor := t.cursor, segN := t.segN, digEn := t.digEn
                   confirmFlag := t.confirmFlag, pt := t.pt }

/-- Each pending flag is raised by its own ENV step alone and cleared by its own service alone (or a power cycle), and no
state masks a source: a pending one's service can always run. -/
def Obligations.PendingFlagsFollowTheirSource : Prop :=
  (∀ (i : Instr) (s t : State), exec i s = .next t →
    (s.rxPending = false → t.rxPending = true → ∃ b, i = .envRx b) ∧
    (s.confPending = false → t.confPending = true → i = .envConf false) ∧
    (s.tickPending = false → t.tickPending = true → i = .envTimer) ∧
    (s.rxPending = true → t.rxPending = false → isReceive i = true ∨ i = .reset) ∧
    (s.confPending = true → t.confPending = false → i = .confSvc ∨ i = .reset) ∧
    (s.tickPending = true → t.tickPending = false → i = .tick ∨ i = .reset) ∧
    ((∃ b, i = .envRx b) → t.rxPending = true) ∧
    (i = .envConf false → s.confN = true → t.confPending = true) ∧
    (i = .envTimer → t.tickPending = true) ∧
    (isReceive i = true → t.rxPending = false) ∧
    (i = .confSvc → t.confPending = false) ∧
    (i = .tick → t.tickPending = false)) ∧
  (∀ s : State,
    (s.rxPending = true → ∃ t, exec (rxInstr s.rxData) s = .next t) ∧
    (s.confPending = true → ∃ t, exec .confSvc s = .next t) ∧
    (s.tickPending = true → ∃ t, exec .tick s = .next t))

/-! The whole machine. -/

/-- RESET completes in every state and leaves every element the spec values at that value, with the inputs as ENV holds
them; State.reset agrees with it on those elements (R320; SPEC CHOICES D17, D25, D26, D35). The model's own: idle inputs at
State.reset (log entry 8), timerPeriods = 0, its form of a timer just started (log entries 11 and 14), the schedule (log
entries 1 and 14). Nothing is said of rx_buf, rx_data and adc_data (log entry 7). -/
def Obligations.ResetSetsEveryElement : Prop :=
  encode .reset = 0x000000#24 ∧
  ∀ s : State, ∃ t, exec .reset s = .next t ∧
    t.disp = #v[0#4, 0#4, 0#4, 0#4] ∧ t.cursor = 0 ∧ t.led = .off ∧ t.rxLen = 0#4 ∧
    t.rxPending = false ∧ t.confPending = false ∧ t.tickPending = false ∧ t.txEmpty = true ∧
    t.segN = 0xFF#8 ∧ t.digEn = 0#4 ∧ t.ledG = false ∧ t.ledY = false ∧ t.ledR = false ∧
    (∀ i : Fin 9, t.btnLatch[i] = false) ∧ t.confirmFlag = false ∧ t.lastPot = 0#10 ∧ t.adcBusy = false ∧
    t.btnN = s.btnN ∧ t.confN = s.confN ∧ t.phase = .tx (.scan 0) ∧
    t.txLine = [0x53#8, 0x79#8, 0x73#8, 0x74#8, 0x65#8, 0x6D#8, 0x20#8, 0x52#8, 0x65#8, 0x61#8, 0x64#8, 0x79#8, 0x2E#8,
      0x0D#8, 0x0A#8] ∧
    t.txIdx = 0 ∧ t.pt = [] ∧ t.txs = [] ∧ t.timerPeriods = 0 ∧ t.sched = s.sched ∧
    State.reset = { t with btnN := 0x1FF#9, confN := true, sched := [], rxBuf := State.reset.rxBuf,
                           rxData := State.reset.rxData, adcData := State.reset.adcData }

/-- Only TICK moves the cursor, by one modulo 4, and reset puts it at 0. -/
def Obligations.CursorIsTicksAlone : Prop :=
  State.reset.cursor = 0 ∧
  ∀ (i : Instr) (s t : State), exec i s = .next t →
    (i = .tick → t.cursor.val = (s.cursor.val + 1) % 4) ∧
    (i = .reset → t.cursor = 0) ∧
    (i ≠ .tick → i ≠ .reset → t.cursor = s.cursor)

/-- Every field is written by its writers alone (RESET, which writes all, apart). -/
def Obligations.FieldsHaveTheirWriters : Prop :=
  ∀ (i : Instr) (s t : State), exec i s = .next t → i ≠ .reset →
    ((t.disp ≠ s.disp ∨ t.led ≠ s.led ∨ t.rxBuf ≠ s.rxBuf ∨ t.rxLen ≠ s.rxLen ∨ t.ledG ≠ s.ledG ∨ t.ledY ≠ s.ledY ∨
        t.ledR ≠ s.ledR) → isReceive i = true) ∧
    ((t.cursor ≠ s.cursor ∨ t.segN ≠ s.segN ∨ t.digEn ≠ s.digEn) → i = .tick) ∧
    (s.confirmFlag = false → t.confirmFlag = true → i = .confSvc) ∧
    (s.confirmFlag = true → t.confirmFlag = false → i = .confWaitEnd) ∧
    ((t.btnLatch ≠ s.btnLatch ∨ t.lastPot ≠ s.lastPot ∨ t.phase ≠ s.phase ∨ t.txLine ≠ s.txLine ∨ t.txIdx ≠ s.txIdx) →
      i.agent = .main) ∧
    ((s.rxPending = true ∧ t.rxPending = false) ∨ (s.confPending = true ∧ t.confPending = false) ∨
      (s.tickPending = true ∧ t.tickPending = false) → i.agent = .isr) ∧
    ((s.rxPending = false ∧ t.rxPending = true) ∨ t.rxData ≠ s.rxData ∨ (s.confPending = false ∧ t.confPending = true) ∨
      (s.tickPending = false ∧ t.tickPending = true) ∨ t.adcData ≠ s.adcData ∨
      (s.adcBusy = true ∧ t.adcBusy = false) ∨ (s.txEmpty = false ∧ t.txEmpty = true) ∨ t.btnN ≠ s.btnN ∨
      t.confN ≠ s.confN → i.agent = .env) ∧
    (s.adcBusy = false → t.adcBusy = true → i = .potStart) ∧
    (s.txEmpty = true → t.txEmpty = false → i = .txByte)

/-- PT and TXS only grow, but for a power cycle (SPEC CHOICES D1, D35). -/
def Obligations.TracesOnlyGrow : Prop :=
  ∀ (i : Instr) (s t : State), exec i s = .next t → i ≠ .reset →
    (∃ more, t.pt = s.pt ++ more) ∧ (∃ more, t.txs = s.txs ++ more)

/-- The state after reset meets the invariants that steps keep. -/
def Obligations.ResetMeetsInvariants : Prop :=
  Inv State.reset ∧ PortsFollowTrace State.reset ∧ NoGhosting State.reset.pt ∧ TxStream State.reset

/-- Every step keeps the invariants of reachable states, from every state that meets them (derived rule R51, with R38, R48
and R261). -/
def Obligations.StepKeepsInv : Prop :=
  ∀ s t : State, Inv s → step s = .next t → Inv t

/-- The invariant gives the six clauses of the spec's list (derived rule R51). -/
def Obligations.InvCoversTheSpecsList : Prop :=
  ∀ s : State, Inv s →
    (∀ k : Fin 4, s.disp[k].toNat ≤ 9) ∧ s.rxLen.toNat ≤ 9 ∧
    ¬ (s.ledG = true ∧ s.ledY = true) ∧ ¬ (s.ledG = true ∧ s.ledR = true) ∧ ¬ (s.ledY = true ∧ s.ledR = true) ∧
    (s.digEn = 0#4 ∨ ∃ c : Fin 4, s.digEn = 1#4 <<< c.val ∧ c.val = (s.cursor.val + 3) % 4) ∧
    s.lastPot.toNat ≤ 1023

/-- No well-formed step faults: from a state that meets the invariant neither a step nor any operation ends in a fault. -/
def Obligations.NoStepFaults : Prop :=
  ∀ s : State, Inv s → (∀ e, step s ≠ .fault e) ∧ ∀ (i : Instr) (e : Fault), exec i s ≠ .fault e

/-- The values no rule may read never matter: two states that differ only in stale rx_buf cells, in rx_data with nothing
pending, or in adc_data that no POT_READ can take, step alike and go on differing only there (SPEC CHOICE D25; log entry 7
for the values the model gives them at reset). -/
def Obligations.UnreadableValuesNeverMatter : Prop :=
  ∀ s t : State, Inv s → AgreeWhereReadable s t → ResultRel AgreeWhereReadable (step s) (step t)

/-- MAIN observes the ISR only through confirm_flag: on two states that agree on what MAIN reads, a MAIN operation loads the
same bytes and leaves MAIN's fields alike, whatever the display and receive fields hold (derived rule R292). -/
def Obligations.MainSeesIsrOnlyThroughConfirmFlag : Prop :=
  ∀ (i : Instr) (s t s' : State), i.agent = .main → AgreeForMain s t → exec i s = .next s' →
    ∃ t' loaded, exec i t = .next t' ∧ AgreeForMain s' t' ∧ s'.txs = s.txs ++ loaded ∧ t'.txs = t.txs ++ loaded
end

