-- ==== Sys2Proof/Laws/State.lean ====
section
/-! SUPPORT. One lemma per field per update of the state: what each primitive writes and what it leaves. -/

namespace Sys2Proof.Machine

@[simp] theorem txLoad_disp (b : Byte) (s : State) : (txLoad b s).disp = s.disp := rfl
@[simp] theorem txLoad_cursor (b : Byte) (s : State) : (txLoad b s).cursor = s.cursor := rfl
@[simp] theorem txLoad_led (b : Byte) (s : State) : (txLoad b s).led = s.led := rfl
@[simp] theorem txLoad_rxBuf (b : Byte) (s : State) : (txLoad b s).rxBuf = s.rxBuf := rfl
@[simp] theorem txLoad_rxLen (b : Byte) (s : State) : (txLoad b s).rxLen = s.rxLen := rfl
@[simp] theorem txLoad_rxData (b : Byte) (s : State) : (txLoad b s).rxData = s.rxData := rfl
@[simp] theorem txLoad_rxPending (b : Byte) (s : State) : (txLoad b s).rxPending = s.rxPending := rfl
@[simp] theorem txLoad_confPending (b : Byte) (s : State) : (txLoad b s).confPending = s.confPending := rfl
@[simp] theorem txLoad_tickPending (b : Byte) (s : State) : (txLoad b s).tickPending = s.tickPending := rfl
@[simp] theorem txLoad_txEmpty (b : Byte) (s : State) : (txLoad b s).txEmpty = false := rfl
@[simp] theorem txLoad_txs (b : Byte) (s : State) : (txLoad b s).txs = s.txs ++ [b] := rfl
@[simp] theorem txLoad_segN (b : Byte) (s : State) : (txLoad b s).segN = s.segN := rfl
@[simp] theorem txLoad_digEn (b : Byte) (s : State) : (txLoad b s).digEn = s.digEn := rfl
@[simp] theorem txLoad_ledG (b : Byte) (s : State) : (txLoad b s).ledG = s.ledG := rfl
@[simp] theorem txLoad_ledY (b : Byte) (s : State) : (txLoad b s).ledY = s.ledY := rfl
@[simp] theorem txLoad_ledR (b : Byte) (s : State) : (txLoad b s).ledR = s.ledR := rfl
@[simp] theorem txLoad_pt (b : Byte) (s : State) : (txLoad b s).pt = s.pt := rfl
@[simp] theorem txLoad_btnLatch (b : Byte) (s : State) : (txLoad b s).btnLatch = s.btnLatch := rfl
@[simp] theorem txLoad_confirmFlag (b : Byte) (s : State) : (txLoad b s).confirmFlag = s.confirmFlag := rfl
@[simp] theorem txLoad_lastPot (b : Byte) (s : State) : (txLoad b s).lastPot = s.lastPot := rfl
@[simp] theorem txLoad_adcBusy (b : Byte) (s : State) : (txLoad b s).adcBusy = s.adcBusy := rfl
@[simp] theorem txLoad_adcData (b : Byte) (s : State) : (txLoad b s).adcData = s.adcData := rfl
@[simp] theorem txLoad_btnN (b : Byte) (s : State) : (txLoad b s).btnN = s.btnN := rfl
@[simp] theorem txLoad_confN (b : Byte) (s : State) : (txLoad b s).confN = s.confN := rfl
@[simp] theorem txLoad_phase (b : Byte) (s : State) : (txLoad b s).phase = s.phase := rfl
@[simp] theorem txLoad_txLine (b : Byte) (s : State) : (txLoad b s).txLine = s.txLine := rfl
@[simp] theorem txLoad_txIdx (b : Byte) (s : State) : (txLoad b s).txIdx = s.txIdx := rfl
@[simp] theorem txLoad_timerPeriods (b : Byte) (s : State) : (txLoad b s).timerPeriods = s.timerPeriods := rfl
@[simp] theorem txLoad_sched (b : Byte) (s : State) : (txLoad b s).sched = s.sched := rfl

@[simp] theorem adcStart_disp (s : State) : (adcStart s).disp = s.disp := rfl
@[simp] theorem adcStart_cursor (s : State) : (adcStart s).cursor = s.cursor := rfl
@[simp] theorem adcStart_led (s : State) : (adcStart s).led = s.led := rfl
@[simp] theorem adcStart_rxBuf (s : State) : (adcStart s).rxBuf = s.rxBuf := rfl
@[simp] theorem adcStart_rxLen (s : State) : (adcStart s).rxLen = s.rxLen := rfl
@[simp] theorem adcStart_rxData (s : State) : (adcStart s).rxData = s.rxData := rfl
@[simp] theorem adcStart_rxPending (s : State) : (adcStart s).rxPending = s.rxPending := rfl
@[simp] theorem adcStart_confPending (s : State) : (adcStart s).confPending = s.confPending := rfl
@[simp] theorem adcStart_tickPending (s : State) : (adcStart s).tickPending = s.tickPending := rfl
@[simp] theorem adcStart_txEmpty (s : State) : (adcStart s).txEmpty = s.txEmpty := rfl
@[simp] theorem adcStart_txs (s : State) : (adcStart s).txs = s.txs := rfl
@[simp] theorem adcStart_segN (s : State) : (adcStart s).segN = s.segN := rfl
@[simp] theorem adcStart_digEn (s : State) : (adcStart s).digEn = s.digEn := rfl
@[simp] theorem adcStart_ledG (s : State) : (adcStart s).ledG = s.ledG := rfl
@[simp] theorem adcStart_ledY (s : State) : (adcStart s).ledY = s.ledY := rfl
@[simp] theorem adcStart_ledR (s : State) : (adcStart s).ledR = s.ledR := rfl
@[simp] theorem adcStart_pt (s : State) : (adcStart s).pt = s.pt := rfl
@[simp] theorem adcStart_btnLatch (s : State) : (adcStart s).btnLatch = s.btnLatch := rfl
@[simp] theorem adcStart_confirmFlag (s : State) : (adcStart s).confirmFlag = s.confirmFlag := rfl
@[simp] theorem adcStart_lastPot (s : State) : (adcStart s).lastPot = s.lastPot := rfl
@[simp] theorem adcStart_adcBusy (s : State) : (adcStart s).adcBusy = true := rfl
@[simp] theorem adcStart_adcData (s : State) : (adcStart s).adcData = s.adcData := rfl
@[simp] theorem adcStart_btnN (s : State) : (adcStart s).btnN = s.btnN := rfl
@[simp] theorem adcStart_confN (s : State) : (adcStart s).confN = s.confN := rfl
@[simp] theorem adcStart_phase (s : State) : (adcStart s).phase = s.phase := rfl
@[simp] theorem adcStart_txLine (s : State) : (adcStart s).txLine = s.txLine := rfl
@[simp] theorem adcStart_txIdx (s : State) : (adcStart s).txIdx = s.txIdx := rfl
@[simp] theorem adcStart_timerPeriods (s : State) : (adcStart s).timerPeriods = s.timerPeriods := rfl
@[simp] theorem adcStart_sched (s : State) : (adcStart s).sched = s.sched := rfl

@[simp] theorem rxTake_disp (s : State) : (rxTake s).disp = s.disp := rfl
@[simp] theorem rxTake_cursor (s : State) : (rxTake s).cursor = s.cursor := rfl
@[simp] theorem rxTake_led (s : State) : (rxTake s).led = s.led := rfl
@[simp] theorem rxTake_rxBuf (s : State) : (rxTake s).rxBuf = s.rxBuf := rfl
@[simp] theorem rxTake_rxLen (s : State) : (rxTake s).rxLen = s.rxLen := rfl
@[simp] theorem rxTake_rxData (s : State) : (rxTake s).rxData = s.rxData := rfl
@[simp] theorem rxTake_rxPending (s : State) : (rxTake s).rxPending = false := rfl
@[simp] theorem rxTake_confPending (s : State) : (rxTake s).confPending = s.confPending := rfl
@[simp] theorem rxTake_tickPending (s : State) : (rxTake s).tickPending = s.tickPending := rfl
@[simp] theorem rxTake_txEmpty (s : State) : (rxTake s).txEmpty = s.txEmpty := rfl
@[simp] theorem rxTake_txs (s : State) : (rxTake s).txs = s.txs := rfl
@[simp] theorem rxTake_segN (s : State) : (rxTake s).segN = s.segN := rfl
@[simp] theorem rxTake_digEn (s : State) : (rxTake s).digEn = s.digEn := rfl
@[simp] theorem rxTake_ledG (s : State) : (rxTake s).ledG = s.ledG := rfl
@[simp] theorem rxTake_ledY (s : State) : (rxTake s).ledY = s.ledY := rfl
@[simp] theorem rxTake_ledR (s : State) : (rxTake s).ledR = s.ledR := rfl
@[simp] theorem rxTake_pt (s : State) : (rxTake s).pt = s.pt := rfl
@[simp] theorem rxTake_btnLatch (s : State) : (rxTake s).btnLatch = s.btnLatch := rfl
@[simp] theorem rxTake_confirmFlag (s : State) : (rxTake s).confirmFlag = s.confirmFlag := rfl
@[simp] theorem rxTake_lastPot (s : State) : (rxTake s).lastPot = s.lastPot := rfl
@[simp] theorem rxTake_adcBusy (s : State) : (rxTake s).adcBusy = s.adcBusy := rfl
@[simp] theorem rxTake_adcData (s : State) : (rxTake s).adcData = s.adcData := rfl
@[simp] theorem rxTake_btnN (s : State) : (rxTake s).btnN = s.btnN := rfl
@[simp] theorem rxTake_confN (s : State) : (rxTake s).confN = s.confN := rfl
@[simp] theorem rxTake_phase (s : State) : (rxTake s).phase = s.phase := rfl
@[simp] theorem rxTake_txLine (s : State) : (rxTake s).txLine = s.txLine := rfl
@[simp] theorem rxTake_txIdx (s : State) : (rxTake s).txIdx = s.txIdx := rfl
@[simp] theorem rxTake_timerPeriods (s : State) : (rxTake s).timerPeriods = s.timerPeriods := rfl
@[simp] theorem rxTake_sched (s : State) : (rxTake s).sched = s.sched := rfl

@[simp] theorem goto_disp (p : LoopPhase) (s : State) : (goto p s).disp = s.disp := rfl
@[simp] theorem goto_cursor (p : LoopPhase) (s : State) : (goto p s).cursor = s.cursor := rfl
@[simp] theorem goto_led (p : LoopPhase) (s : State) : (goto p s).led = s.led := rfl
@[simp] theorem goto_rxBuf (p : LoopPhase) (s : State) : (goto p s).rxBuf = s.rxBuf := rfl
@[simp] theorem goto_rxLen (p : LoopPhase) (s : State) : (goto p s).rxLen = s.rxLen := rfl
@[simp] theorem goto_rxData (p : LoopPhase) (s : State) : (goto p s).rxData = s.rxData := rfl
@[simp] theorem goto_rxPending (p : LoopPhase) (s : State) : (goto p s).rxPending = s.rxPending := rfl
@[simp] theorem goto_confPending (p : LoopPhase) (s : State) : (goto p s).confPending = s.confPending := rfl
@[simp] theorem goto_tickPending (p : LoopPhase) (s : State) : (goto p s).tickPending = s.tickPending := rfl
@[simp] theorem goto_txEmpty (p : LoopPhase) (s : State) : (goto p s).txEmpty = s.txEmpty := rfl
@[simp] theorem goto_txs (p : LoopPhase) (s : State) : (goto p s).txs = s.txs := rfl
@[simp] theorem goto_segN (p : LoopPhase) (s : State) : (goto p s).segN = s.segN := rfl
@[simp] theorem goto_digEn (p : LoopPhase) (s : State) : (goto p s).digEn = s.digEn := rfl
@[simp] theorem goto_ledG (p : LoopPhase) (s : State) : (goto p s).ledG = s.ledG := rfl
@[simp] theorem goto_ledY (p : LoopPhase) (s : State) : (goto p s).ledY = s.ledY := rfl
@[simp] theorem goto_ledR (p : LoopPhase) (s : State) : (goto p s).ledR = s.ledR := rfl
@[simp] theorem goto_pt (p : LoopPhase) (s : State) : (goto p s).pt = s.pt := rfl
@[simp] theorem goto_btnLatch (p : LoopPhase) (s : State) : (goto p s).btnLatch = s.btnLatch := rfl
@[simp] theorem goto_confirmFlag (p : LoopPhase) (s : State) : (goto p s).confirmFlag = s.confirmFlag := rfl
@[simp] theorem goto_lastPot (p : LoopPhase) (s : State) : (goto p s).lastPot = s.lastPot := rfl
@[simp] theorem goto_adcBusy (p : LoopPhase) (s : State) : (goto p s).adcBusy = s.adcBusy := rfl
@[simp] theorem goto_adcData (p : LoopPhase) (s : State) : (goto p s).adcData = s.adcData := rfl
@[simp] theorem goto_btnN (p : LoopPhase) (s : State) : (goto p s).btnN = s.btnN := rfl
@[simp] theorem goto_confN (p : LoopPhase) (s : State) : (goto p s).confN = s.confN := rfl
@[simp] theorem goto_phase (p : LoopPhase) (s : State) : (goto p s).phase = .loop p := rfl
@[simp] theorem goto_txLine (p : LoopPhase) (s : State) : (goto p s).txLine = s.txLine := rfl
@[simp] theorem goto_txIdx (p : LoopPhase) (s : State) : (goto p s).txIdx = s.txIdx := rfl
@[simp] theorem goto_timerPeriods (p : LoopPhase) (s : State) : (goto p s).timerPeriods = s.timerPeriods := rfl
@[simp] theorem goto_sched (p : LoopPhase) (s : State) : (goto p s).sched = s.sched := rfl

@[simp] theorem emit_disp (l : List Byte) (n : LoopPhase) (s : State) : (emit l n s).disp = s.disp := rfl
@[simp] theorem emit_cursor (l : List Byte) (n : LoopPhase) (s : State) : (emit l n s).cursor = s.cursor := rfl
@[simp] theorem emit_led (l : List Byte) (n : LoopPhase) (s : State) : (emit l n s).led = s.led := rfl
@[simp] theorem emit_rxBuf (l : List Byte) (n : LoopPhase) (s : State) : (emit l n s).rxBuf = s.rxBuf := rfl
@[simp] theorem emit_rxLen (l : List Byte) (n : LoopPhase) (s : State) : (emit l n s).rxLen = s.rxLen := rfl
@[simp] theorem emit_rxData (l : List Byte) (n : LoopPhase) (s : State) : (emit l n s).rxData = s.rxData := rfl
@[simp] theorem emit_rxPending (l : List Byte) (n : LoopPhase) (s : State) : (emit l n s).rxPending = s.rxPending := rfl
@[simp] theorem emit_confPending (l : List Byte) (n : LoopPhase) (s : State) : (emit l n s).confPending = s.confPending := rfl
@[simp] theorem emit_tickPending (l : List Byte) (n : LoopPhase) (s : State) : (emit l n s).tickPending = s.tickPending := rfl
@[simp] theorem emit_txEmpty (l : List Byte) (n : LoopPhase) (s : State) : (emit l n s).txEmpty = s.txEmpty := rfl
@[simp] theorem emit_txs (l : List Byte) (n : LoopPhase) (s : State) : (emit l n s).txs = s.txs := rfl
@[simp] theorem emit_segN (l : List Byte) (n : LoopPhase) (s : State) : (emit l n s).segN = s.segN := rfl
@[simp] theorem emit_digEn (l : List Byte) (n : LoopPhase) (s : State) : (emit l n s).digEn = s.digEn := rfl
@[simp] theorem emit_ledG (l : List Byte) (n : LoopPhase) (s : State) : (emit l n s).ledG = s.ledG := rfl
@[simp] theorem emit_ledY (l : List Byte) (n : LoopPhase) (s : State) : (emit l n s).ledY = s.ledY := rfl
@[simp] theorem emit_ledR (l : List Byte) (n : LoopPhase) (s : State) : (emit l n s).ledR = s.ledR := rfl
@[simp] theorem emit_pt (l : List Byte) (n : LoopPhase) (s : State) : (emit l n s).pt = s.pt := rfl
@[simp] theorem emit_btnLatch (l : List Byte) (n : LoopPhase) (s : State) : (emit l n s).btnLatch = s.btnLatch := rfl
@[simp] theorem emit_confirmFlag (l : List Byte) (n : LoopPhase) (s : State) : (emit l n s).confirmFlag = s.confirmFlag := rfl
@[simp] theorem emit_lastPot (l : List Byte) (n : LoopPhase) (s : State) : (emit l n s).lastPot = s.lastPot := rfl
@[simp] theorem emit_adcBusy (l : List Byte) (n : LoopPhase) (s : State) : (emit l n s).adcBusy = s.adcBusy := rfl
@[simp] theorem emit_adcData (l : List Byte) (n : LoopPhase) (s : State) : (emit l n s).adcData = s.adcData := rfl
@[simp] theorem emit_btnN (l : List Byte) (n : LoopPhase) (s : State) : (emit l n s).btnN = s.btnN := rfl
@[simp] theorem emit_confN (l : List Byte) (n : LoopPhase) (s : State) : (emit l n s).confN = s.confN := rfl
@[simp] theorem emit_phase (l : List Byte) (n : LoopPhase) (s : State) : (emit l n s).phase = .tx n := rfl
@[simp] theorem emit_txLine (l : List Byte) (n : LoopPhase) (s : State) : (emit l n s).txLine = l ++ lineEnd := rfl
@[simp] theorem emit_txIdx (l : List Byte) (n : LoopPhase) (s : State) : (emit l n s).txIdx = 0 := rfl
@[simp] theorem emit_timerPeriods (l : List Byte) (n : LoopPhase) (s : State) : (emit l n s).timerPeriods = s.timerPeriods := rfl
@[simp] theorem emit_sched (l : List Byte) (n : LoopPhase) (s : State) : (emit l n s).sched = s.sched := rfl

@[simp] theorem updateScore_disp (n : Nat) (s : State) : (updateScore n s).disp = scoreDigits n := rfl
@[simp] theorem updateScore_cursor (n : Nat) (s : State) : (updateScore n s).cursor = s.cursor := rfl
@[simp] theorem updateScore_led (n : Nat) (s : State) : (updateScore n s).led = s.led := rfl
@[simp] theorem updateScore_rxBuf (n : Nat) (s : State) : (updateScore n s).rxBuf = s.rxBuf := rfl
@[simp] theorem updateScore_rxLen (n : Nat) (s : State) : (updateScore n s).rxLen = s.rxLen := rfl
@[simp] theorem updateScore_rxData (n : Nat) (s : State) : (updateScore n s).rxData = s.rxData := rfl
@[simp] theorem updateScore_rxPending (n : Nat) (s : State) : (updateScore n s).rxPending = s.rxPending := rfl
@[simp] theorem updateScore_confPending (n : Nat) (s : State) : (updateScore n s).confPending = s.confPending := rfl
@[simp] theorem updateScore_tickPending (n : Nat) (s : State) : (updateScore n s).tickPending = s.tickPending := rfl
@[simp] theorem updateScore_txEmpty (n : Nat) (s : State) : (updateScore n s).txEmpty = s.txEmpty := rfl
@[simp] theorem updateScore_txs (n : Nat) (s : State) : (updateScore n s).txs = s.txs := rfl
@[simp] theorem updateScore_segN (n : Nat) (s : State) : (updateScore n s).segN = s.segN := rfl
@[simp] theorem updateScore_digEn (n : Nat) (s : State) : (updateScore n s).digEn = s.digEn := rfl
@[simp] theorem updateScore_ledG (n : Nat) (s : State) : (updateScore n s).ledG = s.ledG := rfl
@[simp] theorem updateScore_ledY (n : Nat) (s : State) : (updateScore n s).ledY = s.ledY := rfl
@[simp] theorem updateScore_ledR (n : Nat) (s : State) : (updateScore n s).ledR = s.ledR := rfl
@[simp] theorem updateScore_pt (n : Nat) (s : State) : (updateScore n s).pt = s.pt := rfl
@[simp] theorem updateScore_btnLatch (n : Nat) (s : State) : (updateScore n s).btnLatch = s.btnLatch := rfl
@[simp] theorem updateScore_confirmFlag (n : Nat) (s : State) : (updateScore n s).confirmFlag = s.confirmFlag := rfl
@[simp] theorem updateScore_lastPot (n : Nat) (s : State) : (updateScore n s).lastPot = s.lastPot := rfl
@[simp] theorem updateScore_adcBusy (n : Nat) (s : State) : (updateScore n s).adcBusy = s.adcBusy := rfl
@[simp] theorem updateScore_adcData (n : Nat) (s : State) : (updateScore n s).adcData = s.adcData := rfl
@[simp] theorem updateScore_btnN (n : Nat) (s : State) : (updateScore n s).btnN = s.btnN := rfl
@[simp] theorem updateScore_confN (n : Nat) (s : State) : (updateScore n s).confN = s.confN := rfl
@[simp] theorem updateScore_phase (n : Nat) (s : State) : (updateScore n s).phase = s.phase := rfl
@[simp] theorem updateScore_txLine (n : Nat) (s : State) : (updateScore n s).txLine = s.txLine := rfl
@[simp] theorem updateScore_txIdx (n : Nat) (s : State) : (updateScore n s).txIdx = s.txIdx := rfl
@[simp] theorem updateScore_timerPeriods (n : Nat) (s : State) : (updateScore n s).timerPeriods = s.timerPeriods := rfl
@[simp] theorem updateScore_sched (n : Nat) (s : State) : (updateScore n s).sched = s.sched := rfl

@[simp] theorem clearLine_disp (s : State) : (clearLine s).disp = s.disp := rfl
@[simp] theorem clearLine_cursor (s : State) : (clearLine s).cursor = s.cursor := rfl
@[simp] theorem clearLine_led (s : State) : (clearLine s).led = s.led := rfl
@[simp] theorem clearLine_rxBuf (s : State) : (clearLine s).rxBuf = s.rxBuf := rfl
@[simp] theorem clearLine_rxLen (s : State) : (clearLine s).rxLen = 0#4 := rfl
@[simp] theorem clearLine_rxData (s : State) : (clearLine s).rxData = s.rxData := rfl
@[simp] theorem clearLine_rxPending (s : State) : (clearLine s).rxPending = s.rxPending := rfl
@[simp] theorem clearLine_confPending (s : State) : (clearLine s).confPending = s.confPending := rfl
@[simp] theorem clearLine_tickPending (s : State) : (clearLine s).tickPending = s.tickPending := rfl
@[simp] theorem clearLine_txEmpty (s : State) : (clearLine s).txEmpty = s.txEmpty := rfl
@[simp] theorem clearLine_txs (s : State) : (clearLine s).txs = s.txs := rfl
@[simp] theorem clearLine_segN (s : State) : (clearLine s).segN = s.segN := rfl
@[simp] theorem clearLine_digEn (s : State) : (clearLine s).digEn = s.digEn := rfl
@[simp] theorem clearLine_ledG (s : State) : (clearLine s).ledG = s.ledG := rfl
@[simp] theorem clearLine_ledY (s : State) : (clearLine s).ledY = s.ledY := rfl
@[simp] theorem clearLine_ledR (s : State) : (clearLine s).ledR = s.ledR := rfl
@[simp] theorem clearLine_pt (s : State) : (clearLine s).pt = s.pt := rfl
@[simp] theorem clearLine_btnLatch (s : State) : (clearLine s).btnLatch = s.btnLatch := rfl
@[simp] theorem clearLine_confirmFlag (s : State) : (clearLine s).confirmFlag = s.confirmFlag := rfl
@[simp] theorem clearLine_lastPot (s : State) : (clearLine s).lastPot = s.lastPot := rfl
@[simp] theorem clearLine_adcBusy (s : State) : (clearLine s).adcBusy = s.adcBusy := rfl
@[simp] theorem clearLine_adcData (s : State) : (clearLine s).adcData = s.adcData := rfl
@[simp] theorem clearLine_btnN (s : State) : (clearLine s).btnN = s.btnN := rfl
@[simp] theorem clearLine_confN (s : State) : (clearLine s).confN = s.confN := rfl
@[simp] theorem clearLine_phase (s : State) : (clearLine s).phase = s.phase := rfl
@[simp] theorem clearLine_txLine (s : State) : (clearLine s).txLine = s.txLine := rfl
@[simp] theorem clearLine_txIdx (s : State) : (clearLine s).txIdx = s.txIdx := rfl
@[simp] theorem clearLine_timerPeriods (s : State) : (clearLine s).timerPeriods = s.timerPeriods := rfl
@[simp] theorem clearLine_sched (s : State) : (clearLine s).sched = s.sched := rfl

@[simp] theorem portWriteDigEn_disp (v : BitVec 4) (s : State) : (portWrite (.digEn v) s).disp = s.disp := rfl
@[simp] theorem portWriteDigEn_cursor (v : BitVec 4) (s : State) : (portWrite (.digEn v) s).cursor = s.cursor := rfl
@[simp] theorem portWriteDigEn_led (v : BitVec 4) (s : State) : (portWrite (.digEn v) s).led = s.led := rfl
@[simp] theorem portWriteDigEn_rxBuf (v : BitVec 4) (s : State) : (portWrite (.digEn v) s).rxBuf = s.rxBuf := rfl
@[simp] theorem portWriteDigEn_rxLen (v : BitVec 4) (s : State) : (portWrite (.digEn v) s).rxLen = s.rxLen := rfl
@[simp] theorem portWriteDigEn_rxData (v : BitVec 4) (s : State) : (portWrite (.digEn v) s).rxData = s.rxData := rfl
@[simp] theorem portWriteDigEn_rxPending (v : BitVec 4) (s : State) : (portWrite (.digEn v) s).rxPending = s.rxPending := rfl
@[simp] theorem portWriteDigEn_confPending (v : BitVec 4) (s : State) : (portWrite (.digEn v) s).confPending = s.confPending := rfl
@[simp] theorem portWriteDigEn_tickPending (v : BitVec 4) (s : State) : (portWrite (.digEn v) s).tickPending = s.tickPending := rfl
@[simp] theorem portWriteDigEn_txEmpty (v : BitVec 4) (s : State) : (portWrite (.digEn v) s).txEmpty = s.txEmpty := rfl
@[simp] theorem portWriteDigEn_txs (v : BitVec 4) (s : State) : (portWrite (.digEn v) s).txs = s.txs := rfl
@[simp] theorem portWriteDigEn_segN (v : BitVec 4) (s : State) : (portWrite (.digEn v) s).segN = s.segN := rfl
@[simp] theorem portWriteDigEn_digEn (v : BitVec 4) (s : State) : (portWrite (.digEn v) s).digEn = v := rfl
@[simp] theorem portWriteDigEn_ledG (v : BitVec 4) (s : State) : (portWrite (.digEn v) s).ledG = s.ledG := rfl
@[simp] theorem portWriteDigEn_ledY (v : BitVec 4) (s : State) : (portWrite (.digEn v) s).ledY = s.ledY := rfl
@[simp] theorem portWriteDigEn_ledR (v : BitVec 4) (s : State) : (portWrite (.digEn v) s).ledR = s.ledR := rfl
@[simp] theorem portWriteDigEn_pt (v : BitVec 4) (s : State) : (portWrite (.digEn v) s).pt = s.pt ++ [.digEn v] := rfl
@[simp] theorem portWriteDigEn_btnLatch (v : BitVec 4) (s : State) : (portWrite (.digEn v) s).btnLatch = s.btnLatch := rfl
@[simp] theorem portWriteDigEn_confirmFlag (v : BitVec 4) (s : State) : (portWrite (.digEn v) s).confirmFlag = s.confirmFlag := rfl
@[simp] theorem portWriteDigEn_lastPot (v : BitVec 4) (s : State) : (portWrite (.digEn v) s).lastPot = s.lastPot := rfl
@[simp] theorem portWriteDigEn_adcBusy (v : BitVec 4) (s : State) : (portWrite (.digEn v) s).adcBusy = s.adcBusy := rfl
@[simp] theorem portWriteDigEn_adcData (v : BitVec 4) (s : State) : (portWrite (.digEn v) s).adcData = s.adcData := rfl
@[simp] theorem portWriteDigEn_btnN (v : BitVec 4) (s : State) : (portWrite (.digEn v) s).btnN = s.btnN := rfl
@[simp] theorem portWriteDigEn_confN (v : BitVec 4) (s : State) : (portWrite (.digEn v) s).confN = s.confN := rfl
@[simp] theorem portWriteDigEn_phase (v : BitVec 4) (s : State) : (portWrite (.digEn v) s).phase = s.phase := rfl
@[simp] theorem portWriteDigEn_txLine (v : BitVec 4) (s : State) : (portWrite (.digEn v) s).txLine = s.txLine := rfl
@[simp] theorem portWriteDigEn_txIdx (v : BitVec 4) (s : State) : (portWrite (.digEn v) s).txIdx = s.txIdx := rfl
@[simp] theorem portWriteDigEn_timerPeriods (v : BitVec 4) (s : State) : (portWrite (.digEn v) s).timerPeriods = s.timerPeriods := rfl
@[simp] theorem portWriteDigEn_sched (v : BitVec 4) (s : State) : (portWrite (.digEn v) s).sched = s.sched := rfl

@[simp] theorem portWriteSegN_disp (v : BitVec 8) (s : State) : (portWrite (.segN v) s).disp = s.disp := rfl
@[simp] theorem portWriteSegN_cursor (v : BitVec 8) (s : State) : (portWrite (.segN v) s).cursor = s.cursor := rfl
@[simp] theorem portWriteSegN_led (v : BitVec 8) (s : State) : (portWrite (.segN v) s).led = s.led := rfl
@[simp] theorem portWriteSegN_rxBuf (v : BitVec 8) (s : State) : (portWrite (.segN v) s).rxBuf = s.rxBuf := rfl
@[simp] theorem portWriteSegN_rxLen (v : BitVec 8) (s : State) : (portWrite (.segN v) s).rxLen = s.rxLen := rfl
@[simp] theorem portWriteSegN_rxData (v : BitVec 8) (s : State) : (portWrite (.segN v) s).rxData = s.rxData := rfl
@[simp] theorem portWriteSegN_rxPending (v : BitVec 8) (s : State) : (portWrite (.segN v) s).rxPending = s.rxPending := rfl
@[simp] theorem portWriteSegN_confPending (v : BitVec 8) (s : State) : (portWrite (.segN v) s).confPending = s.confPending := rfl
@[simp] theorem portWriteSegN_tickPending (v : BitVec 8) (s : State) : (portWrite (.segN v) s).tickPending = s.tickPending := rfl
@[simp] theorem portWriteSegN_txEmpty (v : BitVec 8) (s : State) : (portWrite (.segN v) s).txEmpty = s.txEmpty := rfl
@[simp] theorem portWriteSegN_txs (v : BitVec 8) (s : State) : (portWrite (.segN v) s).txs = s.txs := rfl
@[simp] theorem portWriteSegN_segN (v : BitVec 8) (s : State) : (portWrite (.segN v) s).segN = v := rfl
@[simp] theorem portWriteSegN_digEn (v : BitVec 8) (s : State) : (portWrite (.segN v) s).digEn = s.digEn := rfl
@[simp] theorem portWriteSegN_ledG (v : BitVec 8) (s : State) : (portWrite (.segN v) s).ledG = s.ledG := rfl
@[simp] theorem portWriteSegN_ledY (v : BitVec 8) (s : State) : (portWrite (.segN v) s).ledY = s.ledY := rfl
@[simp] theorem portWriteSegN_ledR (v : BitVec 8) (s : State) : (portWrite (.segN v) s).ledR = s.ledR := rfl
@[simp] theorem portWriteSegN_pt (v : BitVec 8) (s : State) : (portWrite (.segN v) s).pt = s.pt ++ [.segN v] := rfl
@[simp] theorem portWriteSegN_btnLatch (v : BitVec 8) (s : State) : (portWrite (.segN v) s).btnLatch = s.btnLatch := rfl
@[simp] theorem portWriteSegN_confirmFlag (v : BitVec 8) (s : State) : (portWrite (.segN v) s).confirmFlag = s.confirmFlag := rfl
@[simp] theorem portWriteSegN_lastPot (v : BitVec 8) (s : State) : (portWrite (.segN v) s).lastPot = s.lastPot := rfl
@[simp] theorem portWriteSegN_adcBusy (v : BitVec 8) (s : State) : (portWrite (.segN v) s).adcBusy = s.adcBusy := rfl
@[simp] theorem portWriteSegN_adcData (v : BitVec 8) (s : State) : (portWrite (.segN v) s).adcData = s.adcData := rfl
@[simp] theorem portWriteSegN_btnN (v : BitVec 8) (s : State) : (portWrite (.segN v) s).btnN = s.btnN := rfl
@[simp] theorem portWriteSegN_confN (v : BitVec 8) (s : State) : (portWrite (.segN v) s).confN = s.confN := rfl
@[simp] theorem portWriteSegN_phase (v : BitVec 8) (s : State) : (portWrite (.segN v) s).phase = s.phase := rfl
@[simp] theorem portWriteSegN_txLine (v : BitVec 8) (s : State) : (portWrite (.segN v) s).txLine = s.txLine := rfl
@[simp] theorem portWriteSegN_txIdx (v : BitVec 8) (s : State) : (portWrite (.segN v) s).txIdx = s.txIdx := rfl
@[simp] theorem portWriteSegN_timerPeriods (v : BitVec 8) (s : State) : (portWrite (.segN v) s).timerPeriods = s.timerPeriods := rfl
@[simp] theorem portWriteSegN_sched (v : BitVec 8) (s : State) : (portWrite (.segN v) s).sched = s.sched := rfl

@[simp] theorem portWriteLeds_disp (g y r : Bool) (s : State) : (portWrite (.leds g y r) s).disp = s.disp := rfl
@[simp] theorem portWriteLeds_cursor (g y r : Bool) (s : State) : (portWrite (.leds g y r) s).cursor = s.cursor := rfl
@[simp] theorem portWriteLeds_led (g y r : Bool) (s : State) : (portWrite (.leds g y r) s).led = s.led := rfl
@[simp] theorem portWriteLeds_rxBuf (g y r : Bool) (s : State) : (portWrite (.leds g y r) s).rxBuf = s.rxBuf := rfl
@[simp] theorem portWriteLeds_rxLen (g y r : Bool) (s : State) : (portWrite (.leds g y r) s).rxLen = s.rxLen := rfl
@[simp] theorem portWriteLeds_rxData (g y r : Bool) (s : State) : (portWrite (.leds g y r) s).rxData = s.rxData := rfl
@[simp] theorem portWriteLeds_rxPending (g y r : Bool) (s : State) : (portWrite (.leds g y r) s).rxPending = s.rxPending := rfl
@[simp] theorem portWriteLeds_confPending (g y r : Bool) (s : State) : (portWrite (.leds g y r) s).confPending = s.confPending := rfl
@[simp] theorem portWriteLeds_tickPending (g y r : Bool) (s : State) : (portWrite (.leds g y r) s).tickPending = s.tickPending := rfl
@[simp] theorem portWriteLeds_txEmpty (g y r : Bool) (s : State) : (portWrite (.leds g y r) s).txEmpty = s.txEmpty := rfl
@[simp] theorem portWriteLeds_txs (g y r : Bool) (s : State) : (portWrite (.leds g y r) s).txs = s.txs := rfl
@[simp] theorem portWriteLeds_segN (g y r : Bool) (s : State) : (portWrite (.leds g y r) s).segN = s.segN := rfl
@[simp] theorem portWriteLeds_digEn (g y r : Bool) (s : State) : (portWrite (.leds g y r) s).digEn = s.digEn := rfl
@[simp] theorem portWriteLeds_ledG (g y r : Bool) (s : State) : (portWrite (.leds g y r) s).ledG = g := rfl
@[simp] theorem portWriteLeds_ledY (g y r : Bool) (s : State) : (portWrite (.leds g y r) s).ledY = y := rfl
@[simp] theorem portWriteLeds_ledR (g y r : Bool) (s : State) : (portWrite (.leds g y r) s).ledR = r := rfl
@[simp] theorem portWriteLeds_pt (g y r : Bool) (s : State) : (portWrite (.leds g y r) s).pt = s.pt ++ [.leds g y r] := rfl
@[simp] theorem portWriteLeds_btnLatch (g y r : Bool) (s : State) : (portWrite (.leds g y r) s).btnLatch = s.btnLatch := rfl
@[simp] theorem portWriteLeds_confirmFlag (g y r : Bool) (s : State) : (portWrite (.leds g y r) s).confirmFlag = s.confirmFlag := rfl
@[simp] theorem portWriteLeds_lastPot (g y r : Bool) (s : State) : (portWrite (.leds g y r) s).lastPot = s.lastPot := rfl
@[simp] theorem portWriteLeds_adcBusy (g y r : Bool) (s : State) : (portWrite (.leds g y r) s).adcBusy = s.adcBusy := rfl
@[simp] theorem portWriteLeds_adcData (g y r : Bool) (s : State) : (portWrite (.leds g y r) s).adcData = s.adcData := rfl
@[simp] theorem portWriteLeds_btnN (g y r : Bool) (s : State) : (portWrite (.leds g y r) s).btnN = s.btnN := rfl
@[simp] theorem portWriteLeds_confN (g y r : Bool) (s : State) : (portWrite (.leds g y r) s).confN = s.confN := rfl
@[simp] theorem portWriteLeds_phase (g y r : Bool) (s : State) : (portWrite (.leds g y r) s).phase = s.phase := rfl
@[simp] theorem portWriteLeds_txLine (g y r : Bool) (s : State) : (portWrite (.leds g y r) s).txLine = s.txLine := rfl
@[simp] theorem portWriteLeds_txIdx (g y r : Bool) (s : State) : (portWrite (.leds g y r) s).txIdx = s.txIdx := rfl
@[simp] theorem portWriteLeds_timerPeriods (g y r : Bool) (s : State) : (portWrite (.leds g y r) s).timerPeriods = s.timerPeriods := rfl
@[simp] theorem portWriteLeds_sched (g y r : Bool) (s : State) : (portWrite (.leds g y r) s).sched = s.sched := rfl

@[simp] theorem setLed_disp (l : Led) (s : State) : (setLed l s).disp = s.disp := rfl
@[simp] theorem setLed_cursor (l : Led) (s : State) : (setLed l s).cursor = s.cursor := rfl
@[simp] theorem setLed_led (l : Led) (s : State) : (setLed l s).led = l := rfl
@[simp] theorem setLed_rxBuf (l : Led) (s : State) : (setLed l s).rxBuf = s.rxBuf := rfl
@[simp] theorem setLed_rxLen (l : Led) (s : State) : (setLed l s).rxLen = s.rxLen := rfl
@[simp] theorem setLed_rxData (l : Led) (s : State) : (setLed l s).rxData = s.rxData := rfl
@[simp] theorem setLed_rxPending (l : Led) (s : State) : (setLed l s).rxPending = s.rxPending := rfl
@[simp] theorem setLed_confPending (l : Led) (s : State) : (setLed l s).confPending = s.confPending := rfl
@[simp] theorem setLed_tickPending (l : Led) (s : State) : (setLed l s).tickPending = s.tickPending := rfl
@[simp] theorem setLed_txEmpty (l : Led) (s : State) : (setLed l s).txEmpty = s.txEmpty := rfl
@[simp] theorem setLed_txs (l : Led) (s : State) : (setLed l s).txs = s.txs := rfl
@[simp] theorem setLed_segN (l : Led) (s : State) : (setLed l s).segN = s.segN := rfl
@[simp] theorem setLed_digEn (l : Led) (s : State) : (setLed l s).digEn = s.digEn := rfl
@[simp] theorem setLed_ledG (l : Led) (s : State) : (setLed l s).ledG = l.lineG := rfl
@[simp] theorem setLed_ledY (l : Led) (s : State) : (setLed l s).ledY = l.lineY := rfl
@[simp] theorem setLed_ledR (l : Led) (s : State) : (setLed l s).ledR = l.lineR := rfl
@[simp] theorem setLed_pt (l : Led) (s : State) : (setLed l s).pt = s.pt ++ [.leds l.lineG l.lineY l.lineR] := rfl
@[simp] theorem setLed_btnLatch (l : Led) (s : State) : (setLed l s).btnLatch = s.btnLatch := rfl
@[simp] theorem setLed_confirmFlag (l : Led) (s : State) : (setLed l s).confirmFlag = s.confirmFlag := rfl
@[simp] theorem setLed_lastPot (l : Led) (s : State) : (setLed l s).lastPot = s.lastPot := rfl
@[simp] theorem setLed_adcBusy (l : Led) (s : State) : (setLed l s).adcBusy = s.adcBusy := rfl
@[simp] theorem setLed_adcData (l : Led) (s : State) : (setLed l s).adcData = s.adcData := rfl
@[simp] theorem setLed_btnN (l : Led) (s : State) : (setLed l s).btnN = s.btnN := rfl
@[simp] theorem setLed_confN (l : Led) (s : State) : (setLed l s).confN = s.confN := rfl
@[simp] theorem setLed_phase (l : Led) (s : State) : (setLed l s).phase = s.phase := rfl
@[simp] theorem setLed_txLine (l : Led) (s : State) : (setLed l s).txLine = s.txLine := rfl
@[simp] theorem setLed_txIdx (l : Led) (s : State) : (setLed l s).txIdx = s.txIdx := rfl
@[simp] theorem setLed_timerPeriods (l : Led) (s : State) : (setLed l s).timerPeriods = s.timerPeriods := rfl
@[simp] theorem setLed_sched (l : Led) (s : State) : (setLed l s).sched = s.sched := rfl

end Sys2Proof.Machine
end

