-- ==== Sys2Proof/Laws/Ops.lean ====
section
/-! SUPPORT. What each shared operation can do, said once: the guards, the sequencing of a DISPATCH, and for every operation
word when `exec` answers a next state and which. -/

namespace Sys2Proof.Machine

open Sys2Proof.Safety

variable {s t : State}

/-! The guards. -/

theorem guarded_next {i : Instr} {b : Bool} {u : State} : guarded i b u = .next t ↔ b = true ∧ t = u := by
  cases b <;> simp [guarded, eq_comm]

theorem guarded_of_enabled {i : Instr} {b : Bool} {u : State} (h : b = true) : guarded i b u = .next u := by
  simp [guarded, h]

theorem guarded_of_disabled {i : Instr} {b : Bool} {u : State} (h : b = false) :
    guarded i b u = .refused (.notEnabled i) := by
  simp [guarded, h]

theorem guarded_ne_fault {i : Instr} {b : Bool} {u : State} {e : Fault} : guarded i b u ≠ .fault e := by
  cases b <;> simp [guarded]

theorem mainStep_next {i : Instr} {p : LoopPhase} {g : Bool} {u : State} :
    mainStep i p g u s = .next t ↔ s.anyPending = false ∧ s.phase = .loop p ∧ g = true ∧ t = u := by
  simp [mainStep, guarded_next, and_assoc]

theorem mainStep_ne_fault {i : Instr} {p : LoopPhase} {g : Bool} {u : State} {e : Fault} :
    mainStep i p g u s ≠ .fault e := guarded_ne_fault

theorem rxService_next {i : Instr} {b : Byte} {f : State → State} :
    rxService i b f s = .next t ↔ s.rxPending = true ∧ s.rxData = b ∧ t = f (rxTake s) := by
  simp [rxService, guarded_next, and_assoc]

theorem rxService_ne_fault {i : Instr} {b : Byte} {f : State → State} {e : Fault} :
    rxService i b f s ≠ .fault e := guarded_ne_fault

theorem andThen_next {r : Result} {f : State → Result} :
    andThen r f = .next t ↔ ∃ u, r = .next u ∧ f u = .next t := by
  cases r <;> simp [andThen]

@[simp] theorem andThen_of_next {f : State → Result} : andThen (.next s) f = f s := rfl

@[simp] theorem andThen_next_right (r : Result) : (andThen r fun s => .next s) = r := by
  cases r <;> rfl

theorem andThen_fault {r : Result} {f : State → Result} {e : Fault} :
    andThen r f = .fault e ↔ r = .fault e ∨ ∃ u, r = .next u ∧ f u = .fault e := by
  cases r <;> simp [andThen]

theorem buttonIndex_some {i : BitVec 4} {k : Fin 9} : buttonIndex i = some k ↔ i.toNat = k.val := by
  rw [buttonIndex]
  split
  · simp [Fin.ext_iff]
  · simp; omega

theorem buttonIndex_none {i : BitVec 4} : buttonIndex i = none ↔ 9 ≤ i.toNat := by
  rw [buttonIndex]
  split
  · simp; omega
  · simp; omega

/-! When each operation answers a next state, and which. -/

theorem exec_reset_next : exec .reset s = .next t ↔ t = resetBody s := by
  simp [exec, execReset, eq_comm]

theorem exec_rxG_next : exec .rxG s = .next t ↔
    s.rxPending = true ∧ s.rxData = 0x47#8 ∧ t = controlByte .green (rxTake s) := rxService_next

theorem exec_rxP_next : exec .rxP s = .next t ↔
    s.rxPending = true ∧ s.rxData = 0x50#8 ∧ t = controlByte .yellow (rxTake s) := rxService_next

theorem exec_rxE_next : exec .rxE s = .next t ↔
    s.rxPending = true ∧ s.rxData = 0x45#8 ∧ t = controlByte .red (rxTake s) := rxService_next

theorem exec_rxX_next : exec .rxX s = .next t ↔
    s.rxPending = true ∧ s.rxData = 0x58#8 ∧ t = clearByte (rxTake s) := rxService_next

theorem exec_rxCr_next : exec .rxCr s = .next t ↔
    s.rxPending = true ∧ s.rxData = 0x0D#8 ∧ t = terminator (rxTake s) := rxService_next

theorem exec_rxLf_next : exec .rxLf s = .next t ↔
    s.rxPending = true ∧ s.rxData = 0x0A#8 ∧ t = terminator (rxTake s) := rxService_next

theorem exec_rxOrd_next {b : Byte} : exec (.rxOrd b) s = .next t ↔
    isOrdinary b = true ∧ s.rxPending = true ∧ s.rxData = b ∧ t = appendByte b (rxTake s) := by
  rw [exec, execRxOrd]
  cases h : isOrdinary b <;> simp [rxService_next]

theorem exec_confSvc_next : exec .confSvc s = .next t ↔
    s.confPending = true ∧ t = { s with confPending := false, confirmFlag := true } := guarded_next

theorem exec_tick_next : exec .tick s = .next t ↔
    s.tickPending = true ∧ t = tickBody { s with tickPending := false } := guarded_next

theorem exec_txByte_next : exec .txByte s = .next t ↔
    ∃ next b, s.phase = .tx next ∧ s.anyPending = false ∧ s.txEmpty = true ∧ s.txLine[s.txIdx]? = some b ∧
      t = txByteBody next b s := by
  rw [exec, execTxByte]
  split <;> rename_i h
  · simp [h]
  · cases hp : s.anyPending <;> cases he : s.txEmpty <;> simp [h]
    cases hb : s.txLine[s.txIdx]? <;> simp [eq_comm]

theorem exec_scan_next {i : BitVec 4} : exec (.scan i) s = .next t ↔
    ∃ k : Fin 9, i.toNat = k.val ∧ s.anyPending = false ∧ s.phase = .loop (.scan k) ∧ t = scanBody k s := by
  rw [exec, execScan]
  cases h : buttonIndex i with
  | none => rw [buttonIndex_none] at h; simp; omega
  | some k =>
    rw [buttonIndex_some] at h
    simp only [mainStep_next, true_and]
    constructor
    · rintro ⟨hp, hk, ht⟩; exact ⟨k, h, hp, hk, ht⟩
    · rintro ⟨j, hj, hp, hk, ht⟩
      obtain rfl : j = k := Fin.ext (by omega)
      exact ⟨hp, hk, ht⟩

theorem exec_btnWaitEnd_next {i : BitVec 4} : exec (.btnWaitEnd i) s = .next t ↔
    ∃ k : Fin 9, i.toNat = k.val ∧ s.anyPending = false ∧ s.phase = .loop (.btnWait k) ∧
      t = goto (afterButton k) s := by
  rw [exec, execBtnWaitEnd]
  cases h : buttonIndex i with
  | none => rw [buttonIndex_none] at h; simp; omega
  | some k =>
    rw [buttonIndex_some] at h
    simp only [mainStep_next, true_and]
    constructor
    · rintro ⟨hp, hk, ht⟩; exact ⟨k, h, hp, hk, ht⟩
    · rintro ⟨j, hj, hp, hk, ht⟩
      obtain rfl : j = k := Fin.ext (by omega)
      exact ⟨hp, hk, ht⟩

theorem exec_potStart_next : exec .potStart s = .next t ↔
    s.anyPending = false ∧ s.phase = .loop .potStart ∧ t = goto .potWait (adcStart s) := by
  simp [exec, execPotStart, mainStep_next]

theorem exec_potRead_next : exec .potRead s = .next t ↔
    s.anyPending = false ∧ s.phase = .loop .potWait ∧ s.adcBusy = false ∧ t = potReadBody s := by
  simp [exec, execPotRead, mainStep_next]

theorem exec_confCheck_next : exec .confCheck s = .next t ↔
    s.anyPending = false ∧ s.phase = .loop .confCheck ∧ t = confCheckBody s := by
  simp [exec, execConfCheck, mainStep_next]

theorem exec_confWaitEnd_next : exec .confWaitEnd s = .next t ↔
    s.anyPending = false ∧ s.phase = .loop .confWait ∧ t = goto (.scan 0) { s with confirmFlag := false } := by
  simp [exec, execConfWaitEnd, mainStep_next]

theorem exec_envRx_next {b : Byte} : exec (.envRx b) s = .next t ↔
    s.rxPending = false ∧ t = { s with rxData := b, rxPending := true } := by
  simp [exec, execEnvRx, guarded_next]

theorem exec_envConf_next {l : Bool} : exec (.envConf l) s = .next t ↔
    t = { s with confPending := s.confPending || fallingEdge s.confN l, confN := l } := by
  simp [exec, execEnvConf, eq_comm]

theorem exec_envTimer_next : exec .envTimer s = .next t ↔
    t = { s with tickPending := true, timerPeriods := s.timerPeriods + 1 } := by
  simp [exec, execEnvTimer, eq_comm]

theorem exec_envAdcDone_next {v : BitVec 10} : exec (.envAdcDone v) s = .next t ↔
    s.adcBusy = true ∧ t = { s with adcData := v, adcBusy := false } := guarded_next

theorem exec_envTxDone_next : exec .envTxDone s = .next t ↔
    s.txEmpty = false ∧ t = { s with txEmpty := true } := by
  simp [exec, execEnvTxDone, guarded_next]

theorem exec_envBtn_next {v : BitVec 9} : exec (.envBtn v) s = .next t ↔ t = { s with btnN := v } := by
  simp [exec, execEnvBtn, eq_comm]

/-- The one fault of the machine: TX_BYTE enabled with no byte at tx_idx (log entry 13). -/
theorem exec_fault {i : Instr} {e : Fault} : exec i s = .fault e →
    i = .txByte ∧ (∃ next, s.phase = .tx next) ∧ s.txLine[s.txIdx]? = none := by
  intro h
  cases i with
  | txByte =>
    rw [exec, execTxByte] at h
    split at h
    · cases h
    · rename_i n hn
      split at h
      · split at h
        · cases h
        · rename_i hnone; exact ⟨rfl, ⟨n, hn⟩, hnone⟩
      · cases h
  | rxOrd b =>
    rw [exec, execRxOrd] at h
    split at h
    · exact absurd h rxService_ne_fault
    · cases h
  | scan k =>
    rw [exec, execScan] at h
    split at h
    · exact absurd h mainStep_ne_fault
    · cases h
  | btnWaitEnd k =>
    rw [exec, execBtnWaitEnd] at h
    split at h
    · exact absurd h mainStep_ne_fault
    · cases h
  | reset | envConf _ | envTimer | envBtn _ => cases h
  | rxG | rxP | rxE | rxX | rxCr | rxLf => exact absurd h rxService_ne_fault
  | confSvc | tick | envRx _ | envAdcDone _ | envTxDone => exact absurd h guarded_ne_fault
  | potStart | potRead | confCheck | confWaitEnd => exact absurd h mainStep_ne_fault

end Sys2Proof.Machine
end

