-- ==== Sys2Proof/Laws/PerInstr.lean ====
section
/-! SUPPORT. The family OpWordClass: every operation's word carries its class of 30_encoding.md R111 and has no operand bit
above its field (30_encoding.md R112). -/

namespace Sys2Proof.Laws.OpWordClass

/-- The class byte of an operation (30_encoding.md R111). -/
def classOf : Instr → BitVec 8
  | .reset => 0x00#8
  | .rxG | .rxP | .rxE | .rxX | .rxCr | .rxLf | .rxOrd _ => 0x01#8
  | .confSvc => 0x02#8
  | .tick => 0x03#8
  | .txByte => 0x10#8
  | .scan _ => 0x11#8
  | .btnWaitEnd _ => 0x12#8
  | .potStart => 0x13#8
  | .potRead => 0x14#8
  | .confCheck => 0x15#8
  | .confWaitEnd => 0x16#8
  | .envRx _ => 0x20#8
  | .envConf _ => 0x21#8
  | .envTimer => 0x22#8
  | .envAdcDone _ => 0x23#8
  | .envTxDone => 0x24#8
  | .envBtn _ => 0x25#8

/-- The width of an operation's operand field (30_encoding.md R111). -/
def fieldWidth : Instr → Nat
  | .rxG | .rxP | .rxE | .rxX | .rxCr | .rxLf | .rxOrd _ | .envRx _ => 8
  | .scan _ | .btnWaitEnd _ => 4
  | .envConf _ => 1
  | .envAdcDone _ => 10
  | .envBtn _ => 9
  | .reset | .confSvc | .tick | .txByte | .potStart | .potRead | .confCheck | .confWaitEnd | .envTimer | .envTxDone => 0

/-- The word of i has i's class and stays inside i's operand field. -/
def Statement (i : Instr) : Prop :=
  opClass (encode i) = classOf i ∧ (opOperand (encode i)).toNat < 2 ^ fieldWidth i

theorem opClass_opWord (c : BitVec 8) (o : BitVec 16) : opClass (opWord c o) = c := by
  ext k hk
  simp only [opClass, opWord]
  rw [BitVec.getElem_extractLsb', BitVec.getLsbD_append]
  simp [BitVec.getLsbD_eq_getElem hk]

theorem opOperand_opWord (c : BitVec 8) (o : BitVec 16) : opOperand (opWord c o) = o := by
  ext k hk
  simp only [opOperand, opWord]
  rw [BitVec.getElem_extractLsb', BitVec.getLsbD_append]
  simp [hk]

theorem statement_of_field {i : Instr} {c : BitVec 8} {n : Nat} (v : BitVec n) (hn : n ≤ 16)
    (he : encode i = opWord c (v.setWidth 16)) (hc : classOf i = c) (hw : fieldWidth i = n) : Statement i := by
  refine ⟨by rw [he, opClass_opWord, hc], ?_⟩
  rw [he, opOperand_opWord, hw, BitVec.toNat_setWidth, Nat.mod_eq_of_lt]
  · exact v.isLt
  · exact Nat.lt_of_lt_of_le v.isLt (Nat.pow_le_pow_right (by decide) hn)

theorem reset : Statement .reset := by unfold Statement; decide
theorem rxG : Statement .rxG := by unfold Statement; decide
theorem rxP : Statement .rxP := by unfold Statement; decide
theorem rxE : Statement .rxE := by unfold Statement; decide
theorem rxX : Statement .rxX := by unfold Statement; decide
theorem rxCr : Statement .rxCr := by unfold Statement; decide
theorem rxLf : Statement .rxLf := by unfold Statement; decide
theorem rxOrd (b : Byte) : Statement (.rxOrd b) := statement_of_field b (by decide) rfl rfl rfl
theorem confSvc : Statement .confSvc := by unfold Statement; decide
theorem tick : Statement .tick := by unfold Statement; decide
theorem txByte : Statement .txByte := by unfold Statement; decide
theorem scan (i : BitVec 4) : Statement (.scan i) := statement_of_field i (by decide) rfl rfl rfl
theorem btnWaitEnd (i : BitVec 4) : Statement (.btnWaitEnd i) := statement_of_field i (by decide) rfl rfl rfl
theorem potStart : Statement .potStart := by unfold Statement; decide
theorem potRead : Statement .potRead := by unfold Statement; decide
theorem confCheck : Statement .confCheck := by unfold Statement; decide
theorem confWaitEnd : Statement .confWaitEnd := by unfold Statement; decide
theorem envRx (b : Byte) : Statement (.envRx b) := statement_of_field b (by decide) rfl rfl rfl
theorem envConf (l : Bool) : Statement (.envConf l) :=
  statement_of_field (BitVec.ofBool l) (by decide) rfl rfl rfl
theorem envTimer : Statement .envTimer := by unfold Statement; decide
theorem envAdcDone (v : BitVec 10) : Statement (.envAdcDone v) := statement_of_field v (by decide) rfl rfl rfl
theorem envTxDone : Statement .envTxDone := by unfold Statement; decide
theorem envBtn (v : BitVec 9) : Statement (.envBtn v) := statement_of_field v (by decide) rfl rfl rfl

end Sys2Proof.Laws.OpWordClass
end

