-- ==== Sys2Proof/Laws/Step.lean ====
section
/-! SUPPORT. What one step can do, said once: a DISPATCH is its services in order, a step is one operation, one DISPATCH or a
wait, and a property kept by every operation is kept by every step. -/

namespace Sys2Proof.Machine

open Sys2Proof.Safety

variable {s t : State}

/-- A word of the ISR's: a receive, confirm or tick service. -/
theorem agent_isr_iff {i : Instr} : i.agent = .isr ↔ isReceive i = true ∨ i = .confSvc ∨ i = .tick := by
  cases i <;> simp [Instr.agent, isReceive]

theorem rxInstr_isReceive (b : Byte) : isReceive (rxInstr b) = true := by
  rw [rxInstr]; split <;> rfl

/-- The receive service is the operation its byte selects. -/
theorem receiveService_eq : receiveService s = exec (rxInstr s.rxData) s := by
  rw [receiveService, rxInstr]; cases classify s.rxData <;> rfl

/-- A pending byte's service always completes. -/
theorem receiveService_completes (h : s.rxPending = true) : ∃ t, receiveService s = .next t := by
  rw [receiveService]
  generalize hc : classify s.rxData = c
  have hb : ∀ {b : Byte} {i f}, s.rxData = b → ∃ t, rxService i b f s = .next t := fun hb =>
    ⟨_, rxService_next.mpr ⟨h, hb, rfl⟩⟩
  cases c <;> simp only [execRxG, execRxP, execRxE, execRxX, execRxCr, execRxLf, execRxOrd, isOrdinary, hc, beq_self_eq_true,
    if_true]
  case ordinary => exact hb rfl
  all_goals
    refine hb ?_
    rw [classify] at hc
    repeat' split at hc
    all_goals first | assumption | cases hc

/-- A receive service leaves the other two sources as they were (10_state.md R49). -/
theorem receiveService_flags (h : receiveService s = .next t) :
    t.rxPending = false ∧ t.confPending = s.confPending ∧ t.tickPending = s.tickPending := by
  rw [receiveService] at h
  have hk : ∀ {b i} {f : State → State},
      (∀ u : State, (f u).rxPending = u.rxPending ∧ (f u).confPending = u.confPending ∧ (f u).tickPending = u.tickPending) →
      rxService i b f s = .next t →
      t.rxPending = false ∧ t.confPending = s.confPending ∧ t.tickPending = s.tickPending := by
    intro b i f hf hn
    obtain ⟨-, -, rfl⟩ := rxService_next.mp hn
    exact hf (rxTake s)
  split at h
  · exact hk (f := controlByte .green) (fun _ => ⟨rfl, rfl, rfl⟩) h
  · exact hk (f := controlByte .yellow) (fun _ => ⟨rfl, rfl, rfl⟩) h
  · exact hk (f := controlByte .red) (fun _ => ⟨rfl, rfl, rfl⟩) h
  · exact hk (f := clearByte) (fun _ => ⟨rfl, rfl, rfl⟩) h
  · exact hk (fun u => by rw [terminator, lineEval]; split <;> exact ⟨rfl, rfl, rfl⟩) h
  · exact hk (fun u => by rw [terminator, lineEval]; split <;> exact ⟨rfl, rfl, rfl⟩) h
  · rw [execRxOrd] at h
    split at h
    · exact hk (fun u => by rw [appendByte]; split <;> exact ⟨rfl, rfl, rfl⟩) h
    · cases h

/-- DISPATCH runs the due services one after another, and does not exist without one (60_exceptions.md R285). -/
theorem dispatch_next : dispatch s = .next t ↔
    s.anyPending = true ∧ ∃ u v,
      (if s.rxPending then receiveService s else .next s) = .next u ∧
      (if s.confPending then execConfSvc u else .next u) = .next v ∧
      (if s.tickPending then execTick v else .next v) = .next t := by
  simp only [dispatch, State.anyPending]
  split
  · rename_i h; simp [andThen_next, h]
  · rename_i h; simp [h]

theorem dropFront_some {p l r : List OpWord} : dropFront p l = some r ↔ l = p ++ r := by
  induction p generalizing l with
  | nil => simp [dropFront]
  | cons x p ih =>
    cases l with
    | nil => simp [dropFront]
    | cons y l =>
      rw [dropFront]
      split
      · rename_i h; simp [ih, h]
      · rename_i h; simp [Ne.symm h]

/-- What one step can do: the block's DISPATCH, MAIN's operation or its wait when nothing is scheduled; else the scheduled
word's operation, or the scheduled DISPATCH. -/
theorem step_next : step s = .next t →
    (s.sched = [] ∧ dispatch s = .next t) ∨
    (s.sched = [] ∧ s.anyPending = false ∧ ∃ i, s.mainOp = some i ∧ exec i s = .next t) ∨
    (s.sched = [] ∧ s.anyPending = false ∧ s.mainOp = none ∧ t = s) ∨
    (∃ w rest i, s.sched = w :: rest ∧ decode w = .ok i ∧ i.agent ≠ .isr ∧ exec i { s with sched := rest } = .next t) ∨
    (∃ rest, s.sched = s.dueWords ++ rest ∧ dispatch { s with sched := rest } = .next t) := by
  intro h
  rw [step] at h
  split at h
  · rename_i hs
    rw [ownStep] at h
    split at h
    · exact .inl ⟨hs, h⟩
    · rename_i hp
      have hp : s.anyPending = false := by simpa using hp
      split at h
      · rename_i i hi; exact .inr (.inl ⟨hs, hp, i, hi, h⟩)
      · rename_i hi; cases h; exact .inr (.inr (.inl ⟨hs, hp, hi, rfl⟩))
  · rename_i w rest hs
    rw [takeWord] at h
    split at h
    · cases h
    · rename_i i hi
      split at h
      · rw [takeDispatch] at h
        split at h
        · rename_i r hr
          exact .inr (.inr (.inr (.inr ⟨r, dropFront_some.mp hr, h⟩)))
        · cases h
      · rename_i ha; exact .inr (.inr (.inr (.inl ⟨w, rest, i, hs, hi, ha, h⟩)))

/-- A property kept by every operation is kept by a DISPATCH. -/
theorem dispatch_keeps {P : State → Prop} (he : ∀ i s t, P s → exec i s = .next t → P t) (hs : P s)
    (h : dispatch s = .next t) : P t := by
  obtain ⟨-, u, v, hu, hv, ht⟩ := dispatch_next.mp h
  have pu : P u := by
    split at hu
    · rw [receiveService_eq] at hu; exact he _ _ _ hs hu
    · cases hu; exact hs
  have pv : P v := by
    split at hv
    · exact he .confSvc _ _ pu hv
    · cases hv; exact pu
  split at ht
  · exact he .tick _ _ pv ht
  · cases ht; exact pv

/-- A property kept by every operation, and not about `sched`, is kept by every step. -/
theorem step_keeps {P : State → Prop} (hsched : ∀ s r, P s → P { s with sched := r })
    (he : ∀ i s t, P s → exec i s = .next t → P t) (hs : P s) (h : step s = .next t) : P t := by
  rcases step_next h with ⟨-, hd⟩ | ⟨-, -, i, -, hi⟩ | ⟨-, -, -, rfl⟩ | ⟨w, rest, i, -, -, -, hi⟩ | ⟨rest, -, hd⟩
  · exact dispatch_keeps he hs hd
  · exact he i _ _ hs hi
  · exact hs
  · exact he i _ _ (hsched _ rest hs) hi
  · exact dispatch_keeps he (hsched _ rest hs) hd

theorem decode_encode_scan : ∀ k : Fin 9,
    decode (encode (.scan (BitVec.ofNat 4 k.val))) = .ok (.scan (BitVec.ofNat 4 k.val)) := by decide

theorem decode_encode_btnWaitEnd : ∀ k : Fin 9,
    decode (encode (.btnWaitEnd (BitVec.ofNat 4 k.val))) = .ok (.btnWaitEnd (BitVec.ofNat 4 k.val)) := by decide

/-- MAIN's operation for its phase is a MAIN operation, and its word decodes to it. -/
theorem mainOp_decodes {i : Instr} (h : s.mainOp = some i) : decode (encode i) = .ok i ∧ i.agent = .main := by
  rw [State.mainOp] at h
  split at h
  · split at h <;> cases h; exact ⟨by decide, rfl⟩
  · cases h; exact ⟨decode_encode_scan _, rfl⟩
  · cases h; exact ⟨decode_encode_btnWaitEnd _, rfl⟩
  · cases h; exact ⟨by decide, rfl⟩
  · split at h <;> cases h; exact ⟨by decide, rfl⟩
  · cases h; exact ⟨by decide, rfl⟩
  · cases h; exact ⟨by decide, rfl⟩

/-- A scheduled word of MAIN's operation for its phase runs that operation. -/
theorem step_mainOp {i : Instr} {rest : List OpWord} (h : s.mainOp = some i) :
    step { s with sched := encode i :: rest } = exec i { s with sched := rest } := by
  obtain ⟨hd, ha⟩ := mainOp_decodes h
  simp [step, takeWord, hd, ha]

end Sys2Proof.Machine
end

