-- ==== Sys2Proof/Tests/Slice0.lean ====
section
/-! SUPPORT. The model's own tests. Expected values are those of spec/95_test_vectors.md and of the words written out from
spec/30_encoding.md R111; the witness theorems show that the statements' hypotheses can be met together. -/

namespace Sys2Proof.Tests

open Sys2Proof.Machine Sys2Proof.Safety

/-! Well-formedness: an ill-formed term for each check, refused. -/

theorem test_wf_rxOrd_control : (Instr.rxOrd 0x47#8).wellFormed = false := by decide
theorem test_wf_scan_nine : (Instr.scan 9#4).wellFormed = false := by decide
theorem test_wf_btnWaitEnd_fifteen : (Instr.btnWaitEnd 15#4).wellFormed = false := by decide
theorem test_wf_holds : (Instr.rxOrd 0x67#8).wellFormed = true ∧ (Instr.scan 8#4).wellFormed = true ∧
    (Instr.btnWaitEnd 8#4).wellFormed = true := by decide

/-! Decoding: one word written out from the class table for every constructor (30_encoding.md R111). -/

def decodesTo (w : OpWord) (i : Instr) : Bool :=
  match decode w with
  | .ok j => i == j && encode i == w
  | .error _ => false

def rejects (w : OpWord) (r : Reject) : Bool :=
  match decode w with
  | .ok _ => false
  | .error e => e == r

theorem test_decode_reset : decodesTo 0b000000000000000000000000#24 .reset = true := by decide
theorem test_decode_receive_controls : decodesTo 0b000000010000000001000111#24 .rxG = true ∧
    decodesTo 0b000000010000000001010000#24 .rxP = true ∧ decodesTo 0b000000010000000001000101#24 .rxE = true ∧
    decodesTo 0b000000010000000001011000#24 .rxX = true := by decide
theorem test_decode_receive_line : decodesTo 0b000000010000000000001101#24 .rxCr = true ∧
    decodesTo 0b000000010000000000001010#24 .rxLf = true ∧
    decodesTo 0b000000010000000000111010#24 (.rxOrd 0x3A#8) = true ∧
    decodesTo 0b000000010000000011111111#24 (.rxOrd 0xFF#8) = true := by decide
theorem test_decode_services : decodesTo 0b000000100000000000000000#24 .confSvc = true ∧
    decodesTo 0b000000110000000000000000#24 .tick = true := by decide
theorem test_decode_main : decodesTo 0b000100000000000000000000#24 .txByte = true ∧
    decodesTo 0b000100010000000000001000#24 (.scan 8#4) = true ∧
    decodesTo 0b000100100000000000000011#24 (.btnWaitEnd 3#4) = true ∧
    decodesTo 0b000100110000000000000000#24 .potStart = true ∧
    decodesTo 0b000101000000000000000000#24 .potRead = true ∧
    decodesTo 0b000101010000000000000000#24 .confCheck = true ∧
    decodesTo 0b000101100000000000000000#24 .confWaitEnd = true := by decide
theorem test_decode_env : decodesTo 0b001000000000000001000111#24 (.envRx 0x47#8) = true ∧
    decodesTo 0b001000010000000000000001#24 (.envConf true) = true ∧
    decodesTo 0b001000100000000000000000#24 .envTimer = true ∧
    decodesTo 0b001000110000001000000000#24 (.envAdcDone 512#10) = true ∧
    decodesTo 0b001001000000000000000000#24 .envTxDone = true ∧
    decodesTo 0b001001010000000111110111#24 (.envBtn 0x1F7#9) = true := by decide

/-- Ill-formed words of 95_test_vectors.md, "Input sampler", and one above each operand field. -/
theorem test_decode_ill_formed : rejects 0x110009#24 .indexAboveEight = true ∧ rejects 0x11000F#24 .indexAboveEight = true ∧
    rejects 0x120009#24 .indexAboveEight = true ∧ rejects 0x040000#24 .unknownClass = true ∧
    rejects 0x030001#24 .operandBits = true ∧ rejects 0x010147#24 .operandBits = true ∧
    rejects 0x210002#24 .operandBits = true ∧ rejects 0x230400#24 .operandBits = true ∧
    rejects 0x250200#24 .operandBits = true ∧ rejects 0x110010#24 .operandBits = true := by decide

/-! A small state and what an operation or a step leaves of it. -/

/-- The boot state of 95_test_vectors.md, "Assumptions used throughout". -/
def boot : State := { State.reset with phase := .loop (.scan 0), txs := bootText ++ lineEnd, txIdx := 15 }

/-- A field of the next state of an outcome. -/
def seen {α : Type} (r : Result) (f : State → α) : Option α :=
  match r with
  | .next s => some (f s)
  | .fault _ => none
  | .refused _ => none

/-- The refusal of an outcome. -/
def refusal (r : Result) : Option Refusal :=
  match r with
  | .refused e => some e
  | .next _ => none
  | .fault _ => none

/-- Byte b pending on s. -/
def pendingByte (b : Byte) (s : State) : State := { s with rxPending := true, rxData := b }

/-- The start of 95_test_vectors.md, "Receive parser, byte classes": "SCR" in the buffer, digits 0012, Green. -/
def midLine : State :=
  { boot with
    rxBuf := #v[0x53#8, 0x43#8, 0x52#8, 0#8, 0#8, 0#8, 0#8, 0#8, 0#8], rxLen := 3#4
    disp := #v[0#4, 0#4, 1#4, 2#4], led := .green, ledG := true }

/-- A full buffer holding "SCR:00042". -/
def fullLine : State :=
  { boot with rxBuf := #v[0x53#8, 0x43#8, 0x52#8, 0x3A#8, 0x30#8, 0x30#8, 0x30#8, 0x34#8, 0x32#8], rxLen := 9#4 }

/-! The display (V1, "Display multiplexer: TICK"). -/

theorem test_score_digits : scoreDigits 0 = #v[0#4, 0#4, 0#4, 0#4] ∧ scoreDigits 42 = #v[0#4, 0#4, 4#4, 2#4] ∧
    scoreDigits 123 = #v[0#4, 1#4, 2#4, 3#4] ∧ scoreDigits 9999 = #v[9#4, 9#4, 9#4, 9#4] ∧
    scoreDigits 10000 = #v[9#4, 9#4, 9#4, 9#4] ∧ scoreDigits 99999 = #v[9#4, 9#4, 9#4, 9#4] := by decide

theorem test_segment_default_table : segLookup defaultSegPatterns 0#4 = 0xC0#8 ∧ segLookup defaultSegPatterns 4#4 = 0x99#8 ∧
    segLookup defaultSegPatterns 9#4 = 0x90#8 ∧ segLookup defaultSegPatterns 10#4 = 0x90#8 ∧
    segLookup defaultSegPatterns 15#4 = 0x90#8 := by decide

theorem test_tick_wraps : seen (exec .tick { boot with tickPending := true, cursor := 3 })
    (fun t => (t.cursor, t.digEn, t.tickPending)) = some (0, 0b1000#4, false) := by decide

theorem test_tick_trace : seen (exec .tick { boot with tickPending := true, cursor := 2, disp := #v[0#4, 1#4, 2#4, 3#4] })
    (fun t => (t.pt.length, t.pt.head?, t.pt.getLast?)) = some (3, some (.digEn 0#4), some (.digEn 0b0100#4)) := by decide

/-! The receive parser ("Receive parser, byte classes", "line evaluation"). -/

theorem test_rxG : seen (exec .rxG (pendingByte 0x47#8 midLine)) (fun t => (t.led, t.rxLen, t.pt)) =
    some (.green, 0#4, [.leds true false false]) := by decide
theorem test_rxP : seen (exec .rxP (pendingByte 0x50#8 midLine)) (fun t => (t.ledG, t.ledY, t.ledR, t.rxLen)) =
    some (false, true, false, 0#4) := by decide
theorem test_rxE : seen (exec .rxE (pendingByte 0x45#8 midLine)) (fun t => (t.led, t.disp, t.rxLen)) =
    some (.red, #v[0#4, 0#4, 1#4, 2#4], 0#4) := by decide
theorem test_rxX : seen (exec .rxX (pendingByte 0x58#8 midLine)) (fun t => (t.led, t.disp, t.rxPending)) =
    some (.off, #v[0#4, 0#4, 0#4, 0#4], false) := by decide
theorem test_rxCr_discards : seen (exec .rxCr (pendingByte 0x0D#8 midLine)) (fun t => (t.disp, t.rxLen, t.led)) =
    some (#v[0#4, 0#4, 1#4, 2#4], 0#4, .green) := by decide
theorem test_rxCr_applies : seen (exec .rxCr (pendingByte 0x0D#8 fullLine)) (fun t => (t.disp, t.rxLen)) =
    some (#v[0#4, 0#4, 4#4, 2#4], 0#4) := by decide
theorem test_rxLf_applies : seen (exec .rxLf (pendingByte 0x0A#8 fullLine)) (fun t => (t.disp, t.rxLen)) =
    some (#v[0#4, 0#4, 4#4, 2#4], 0#4) := by decide
theorem test_rxOrd_keeps_ninth : seen (exec (.rxOrd 0x35#8) (pendingByte 0x35#8 { fullLine with rxLen := 8#4 }))
    (fun t => (t.rxBuf[8], t.rxLen)) = some (0x35#8, 9#4) := by decide
theorem test_rxOrd_drops_tenth : seen (exec (.rxOrd 0x36#8) (pendingByte 0x36#8 fullLine))
    (fun t => (t.rxBuf == fullLine.rxBuf, t.rxLen)) = some (true, 9#4) := by decide
theorem test_classes : classify 0x67#8 = .ordinary ∧ classify 0x00#8 = .ordinary ∧ classify 0xFF#8 = .ordinary := by decide

/-- The lines of "Receive parser, line evaluation": "SCR:", "SCR:5", "SCR:abc", "SCR:-5", "SCR:12a", "scr:5". -/
theorem test_score_lines : isScoreLine [0x53#8, 0x43#8, 0x52#8, 0x3A#8] = false ∧
    isScoreLine [0x53#8, 0x43#8, 0x52#8, 0x3A#8, 0x35#8] = true ∧
    isScoreLine [0x53#8, 0x43#8, 0x52#8, 0x3A#8, 0x61#8, 0x62#8, 0x63#8] = false ∧
    isScoreLine [0x53#8, 0x43#8, 0x52#8, 0x3A#8, 0x2D#8, 0x35#8] = false ∧
    isScoreLine [0x53#8, 0x43#8, 0x52#8, 0x3A#8, 0x31#8, 0x32#8, 0x61#8] = false ∧
    isScoreLine [0x73#8, 0x63#8, 0x72#8, 0x3A#8, 0x35#8] = false := by decide

theorem test_dec : dec [0x30#8, 0x30#8, 0x30#8, 0x34#8, 0x32#8] = 42 ∧ dec [0x31#8, 0x32#8, 0x33#8, 0x34#8, 0x35#8] = 12345 := by
  decide
theorem test_fmtDec : fmtDec 0 = [0x30#8] ∧ fmtDec 512 = [0x35#8, 0x31#8, 0x32#8] ∧
    fmtDec 1023 = [0x31#8, 0x30#8, 0x32#8, 0x33#8] := by decide

/-! The transmitter ("Transmitter: TX_BYTE") and line lengths (30_encoding.md R98). -/

/-- Phase TX(BTN_WAIT(3)) with the line "BTN:3" CR LF. -/
def sending (k : Nat) : State :=
  { boot with phase := .tx (.btnWait 3), txLine := [0x42#8, 0x54#8, 0x4E#8, 0x3A#8, 0x33#8, 0x0D#8, 0x0A#8], txIdx := k,
              txs := [] }

theorem test_txByte_first : seen (exec .txByte (sending 0)) (fun t => (t.txs, t.txIdx, t.txEmpty, t.phase)) =
    some ([0x42#8], 1, false, .tx (.btnWait 3)) := by decide
theorem test_txByte_last : seen (exec .txByte (sending 6)) (fun t => (t.txs, t.txIdx, t.txEmpty, t.phase)) =
    some ([0x0A#8], 7, false, .loop (.btnWait 3)) := by decide
theorem test_line_lengths : (EventLine.bytes .boot).length = 15 ∧ (EventLine.bytes (.button 0)).length = 7 ∧
    (EventLine.bytes .confirm).length = 13 ∧ (EventLine.bytes (.pot 0#10)).length = 7 ∧
    (EventLine.bytes (.pot 1023#10)).length = 10 := by decide

/-! The input sampler ("Input sampler: SCAN and BTN_WAIT_END", "Confirm path", "Potentiometer"). -/

theorem test_scan_reports_eight :
    seen (exec (.scan 8#4) { boot with phase := .loop (.scan 8), btnN := 0x0FF#9 })
      (fun t => (t.btnLatch[8], t.txLine.take 5, t.phase)) =
    some (true, [0x42#8, 0x54#8, 0x4E#8, 0x3A#8, 0x38#8], .tx (.btnWait 8)) := by decide
theorem test_scan_release :
    seen (exec (.scan 0#4) { boot with btnLatch := boot.btnLatch.set 0 true }) (fun t => (t.btnLatch[0], t.phase)) =
    some (false, .loop (.scan 1)) := by decide
theorem test_btnWaitEnd : seen (exec (.btnWaitEnd 8#4) { boot with phase := .loop (.btnWait 8) }) (fun t => t.phase) =
    some (.loop .potStart) ∧
    seen (exec (.btnWaitEnd 2#4) { boot with phase := .loop (.btnWait 2) }) (fun t => t.phase) =
    some (.loop (.scan 3)) := by decide
theorem test_confSvc : seen (exec .confSvc { boot with confPending := true }) (fun t => (t.confPending, t.confirmFlag)) =
    some (false, true) := by decide
theorem test_confCheck_reports :
    seen (exec .confCheck { boot with phase := .loop .confCheck, confirmFlag := true })
      (fun t => (t.txLine.length, t.phase, t.confirmFlag)) = some (13, .tx .confWait, true) := by decide
theorem test_confWaitEnd :
    seen (exec .confWaitEnd { boot with phase := .loop .confWait, confirmFlag := true })
      (fun t => (t.phase, t.confirmFlag)) = some (.loop (.scan 0), false) := by decide
theorem test_potStart : seen (exec .potStart { boot with phase := .loop .potStart }) (fun t => (t.adcBusy, t.phase)) =
    some (true, .loop .potWait) := by decide
/-- A reading equal to the baseline is never beyond the threshold, whatever the threshold is. -/
theorem test_potRead_equal : exceedsThreshold 515#10 515#10 = false := by
  simp [exceedsThreshold]
theorem test_potRead_stalled :
    refusal (exec .potRead { boot with phase := .loop .potWait, adcBusy := true }) = some (.notEnabled .potRead) := by decide

/-! The environment and RESET. -/

theorem test_envRx : seen (exec (.envRx 0x47#8) boot) (fun t => (t.rxData, t.rxPending)) = some (0x47#8, true) ∧
    refusal (exec (.envRx 0x47#8) (pendingByte 0x58#8 boot)) = some (.notEnabled (.envRx 0x47#8)) := by decide
theorem test_envConf : seen (exec (.envConf false) boot) (fun t => (t.confPending, t.confN)) = some (true, false) ∧
    seen (exec (.envConf true) { boot with confN := false }) (fun t => (t.confPending, t.confN)) =
    some (false, true) := by decide
theorem test_envTimer : seen (exec .envTimer boot) (fun t => t.tickPending) = some true := by decide
/-- "At the boot state the word 0x230005 has no step." -/
theorem test_envAdcDone : refusal (exec (.envAdcDone 5#10) boot) = some (.notEnabled (.envAdcDone 5#10)) ∧
    seen (exec (.envAdcDone 512#10) { boot with adcBusy := true }) (fun t => (t.adcData, t.adcBusy)) =
    some (512#10, false) := by decide
theorem test_envTxDone : seen (exec .envTxDone { boot with txEmpty := false }) (fun t => t.txEmpty) = some true := by decide
theorem test_envBtn : seen (exec (.envBtn 0x1F7#9) boot) (fun t => t.btnN) = some 0x1F7#9 := by decide
theorem test_reset : seen (exec .reset { midLine with btnN := 0x1FE#9, txs := [0x42#8] })
    (fun t => (t.disp, t.led, t.txs, t.btnN)) = some (#v[0#4, 0#4, 0#4, 0#4], .off, [], 0x1FE#9) := by decide

/-! Steps and DISPATCH ("Dispatcher order", P4). -/

theorem test_first_step_loads_S : seen (step State.reset) (fun t => (t.txs, t.txIdx)) = some ([0x53#8], 1) := by decide
/-- "X received and a tick pending in the same dispatch": one step, the digits are already zero. -/
theorem test_dispatch_rx_then_tick :
    seen (step { pendingByte 0x58#8 midLine with tickPending := true, sched := [0x010058#24, 0x030000#24] })
      (fun t => (t.disp, t.cursor, t.rxPending, t.tickPending, t.sched)) =
    some (#v[0#4, 0#4, 0#4, 0#4], 1, false, false, []) := by decide
/-- A DISPATCH performs every selected service: the receive word alone is not one when a tick is pending too. -/
theorem test_dispatch_incomplete :
    refusal (step { pendingByte 0x58#8 midLine with tickPending := true, sched := [0x010058#24] }) =
      some .dispatchNotEnabled := by decide
/-- "At phase SCAN(0) with tick_pending 1, the word 0x110000 has no step." -/
theorem test_main_word_while_pending :
    refusal (step { boot with tickPending := true, sched := [0x110000#24] }) = some (.notEnabled (.scan 0#4)) := by decide
theorem test_fetch_word : seen (step (State.reset.withFetchWord 24 0x010047)) (fun t => (t.led, t.sched)) =
    some (.green, []) ∧ seen (step (State.reset.withFetchWord 24 0x140000)) (fun t => t.sched) = some [] := by decide

end Sys2Proof.Tests
end

