-- ==== Sys2Proof/Tests/Witnesses.lean ====
section
/-! SUPPORT. For every statement with hypotheses, a concrete state and operands that meet them together, clause by clause, at
boundary values where a clause has a range. -/

namespace Sys2Proof.Tests

open Sys2Proof.Machine Sys2Proof.Safety

/-- A receive, a confirm and a tick pending together. -/
def threePending : State := { pendingByte 0x58#8 boot with confPending := true, tickPending := true }

/-- MAIN at loop position p, nothing pending. -/
def atPhase (p : LoopPhase) : State := { boot with phase := .loop p }

/-- The outcome is a next state with property p. -/
def outcomeHolds (r : Result) (p : State → Bool) : Bool :=
  match r with
  | .next t => p t
  | .fault _ => false
  | .refused _ => false
theorem outcomeHolds_next {r : Result} {p : State → Bool} (h : outcomeHolds r p = true) : ∃ t, r = .next t ∧ p t = true := by
  cases r with
  | next t => exact ⟨t, rfl, h⟩
  | fault _ => cases h
  | refused _ => cases h

theorem boot_inv : Inv boot where
  digit_le := by decide
  rxLen_le := by decide
  lines_decode := by decide
  digEn_blank_or_last := .inl rfl
  txLine_le := by decide
  txIdx_le := by decide
  tx_byte_left := fun _ h => by cases h
  tx_next := fun _ h => by cases h

theorem witness_EncodingRoundTrips : (Instr.rxOrd 0xFF#8).wellFormed = true ∧ (Instr.scan 8#4).wellFormed = true ∧
    decode 0x120008#24 = .ok (.btnWaitEnd 8#4) := by decide

theorem witness_IllFormedWordsAreRefused :
    (∃ s : State, s.sched = [0x110009#24] ∧ decode 0x110009#24 = .error .indexAboveEight) ∧ 9 ≤ (9#4).toNat :=
  ⟨⟨{ boot with sched := [0x110009#24] }, rfl, by decide⟩, by decide⟩

theorem witness_StepRunsScheduledWord : ∃ s : State, s.sched = 0x220000#24 :: [0x030000#24] ∧
    decode 0x220000#24 = .ok .envTimer ∧ Instr.envTimer.agent ≠ .isr :=
  ⟨{ boot with sched := [0x220000#24, 0x030000#24] }, rfl, by decide, by decide⟩

theorem witness_StepRunsScheduledDispatch_all_due :
    let s := { threePending with sched := [0x010058#24, 0x020000#24, 0x030000#24, 0x110000#24] }
    s.dueServices = [.rxX, .confSvc, .tick] ∧ s.sched = s.dueServices.map encode ++ [0x110000#24] := by decide

theorem witness_StepRunsScheduledDispatch_incomplete :
    let s := { threePending with sched := [0x010058#24] }
    decode 0x010058#24 = .ok .rxX ∧ s.dueServices.length = 3 ∧ s.sched.length = 1 := by decide

theorem witness_StepRunsScheduledDispatch_none_due :
    let s := { boot with sched := [0x030000#24] }
    s.dueServices = [] ∧ decode 0x030000#24 = .ok .tick ∧ Instr.tick.agent = .isr := by decide

theorem witness_StepWithNothingScheduled_pending : threePending.sched = [] ∧ threePending.dueServices ≠ [] := by decide
theorem witness_StepWithNothingScheduled_main : boot.sched = [] ∧ ∃ t, exec (.scan 0#4) boot = .next t := ⟨rfl, _, rfl⟩
theorem witness_StepWithNothingScheduled_waits : ∃ s : State, s.sched = [] ∧ s.anyPending = false ∧ MainWaits s :=
  ⟨{ sending 1 with txEmpty := false }, rfl, rfl, .inl ⟨⟨_, rfl⟩, rfl⟩⟩

theorem witness_TickDrivesOneDigit : threePending.tickPending = true ∧ boot.tickPending = false ∧
    ({ boot with sched := [0x030000#24] } : State).sched = encode .tick :: [] := by decide
theorem witness_SegLookupClampsAndKeepsPointOff : 9 ≤ (9#4).toNat ∧ 9 ≤ (15#4).toNat := by decide

theorem witness_StepKeepsPortsFollowingTrace : PortsFollowTrace threePending ∧ ∃ t, step threePending = .next t :=
  ⟨⟨rfl, rfl, rfl⟩, _, rfl⟩
theorem witness_StepKeepsNoGhosting : NoGhosting threePending.pt ∧ ∃ t, step threePending = .next t :=
  ⟨fun before v after h => (by cases before <;> cases h), _, rfl⟩
theorem witness_StepKeepsTxStream : TxStream boot ∧ ∃ t, step boot = .next t :=
  ⟨⟨[], by simp, rfl⟩, _, rfl⟩
theorem witness_StepKeepsInv : Inv boot ∧ ∃ t, step boot = .next t := ⟨boot_inv, _, rfl⟩
theorem witness_InvCoversTheSpecsList : ∃ s, Inv s := ⟨boot, boot_inv⟩
theorem witness_NoStepFaults : ∃ s, Inv s := ⟨boot, boot_inv⟩

theorem witness_TicksCycleTheCursor : ∃ s : State, s.rxPending = false ∧ s.confPending = false ∧ s.tickPending = false ∧
    s.sched = tickWords 9 ++ [0x110000#24] := ⟨{ boot with sched := tickWords 9 ++ [0x110000#24] }, rfl, rfl, rfl, rfl⟩

/-- A run of a loop with nothing to report: an expiry, its TICK, then MAIN's operation, or the conversion MAIN waits for. -/
def idleWords (n : Nat) (s : State) : List OpWord :=
  match n % 3 with
  | 0 => [encode .envTimer]
  | 1 => [encode .tick]
  | _ =>
    match s.mainOp with
    | some i => [encode i]
    | none => [encode (.envAdcDone 0#10)]

/-- The states of that run from loop position p, confirm_flag set only while its wait runs. -/
def idleRun (p : LoopPhase) : Nat → State
  | 0 => { boot with phase := .loop p, confirmFlag := decide (p = .confWait) }
  | n + 1 =>
    match step { idleRun p n with sched := idleWords n (idleRun p n) } with
    | .next t => t
    | .fault _ => idleRun p n
    | .refused _ => idleRun p n

/-- What every state of that run has: no button, no set flag outside its wait, no reading off the baseline. -/
structure Idle (s : State) : Prop where
  rx : s.rxPending = false
  conf : s.confPending = false
  sched : s.sched = []
  buttons : s.btnN = 0x1FF#9
  flag : s.confirmFlag = true → s.phase = .loop .confWait
  pot : s.lastPot = 0#10 ∧ s.adcData = 0#10
  looping : ∃ q, s.phase = .loop q

theorem idle_goto {s : State} {q : LoopPhase} (h : Idle s) (hf : s.confirmFlag = false) : Idle (goto q s) :=
  ⟨h.rx, h.conf, h.sched, h.buttons, fun hc => absurd (hf.symm.trans hc) (by decide), h.pot, q, rfl⟩

theorem idle_flag {s : State} {p : LoopPhase} (h : Idle s) (hp : s.phase = .loop p) (hne : p ≠ .confWait) :
    s.confirmFlag = false :=
  Bool.eq_false_iff.mpr fun hf => hne (by simpa using hp.symm.trans (h.flag hf))

theorem idle_main_step {s : State} (h : Idle s) (ht : s.tickPending = false) :
    ∃ t, step { s with sched := idleWords 2 s } = .next t ∧ Idle t ∧ t.tickPending = false := by
  have hq : s.anyPending = false := by simp [State.anyPending, h.rx, h.conf, ht]
  have run : ∀ i t, s.mainOp = some i → exec i s = .next t → Idle t → t.tickPending = false →
      ∃ t, step { s with sched := idleWords 2 s } = .next t ∧ Idle t ∧ t.tickPending = false := fun i t hi hx hI hT =>
    ⟨t, by rw [show idleWords 2 s = [encode i] by simp [idleWords, hi], step_mainOp hi, ← h.sched]; exact hx, hI, hT⟩
  obtain ⟨p, hp⟩ := h.looping
  cases p with
  | scan i =>
    have hf := idle_flag h hp (by simp)
    have hb : pressed s.btnN i = false := by rw [h.buttons]; clear hp; revert i; decide
    refine run _ _ (by rw [State.mainOp, hp]) (exec_scan_next.mpr ⟨i, by simp; omega, hq, hp, rfl⟩) ?_ ?_
    · rw [scanBody, hb]
      exact idle_goto ⟨h.rx, h.conf, h.sched, h.buttons, h.flag, h.pot, h.looping⟩ hf
    · rw [scanBody, hb]; exact ht
  | btnWait i =>
    exact run _ _ (by rw [State.mainOp, hp]) (exec_btnWaitEnd_next.mpr ⟨i, by simp; omega, hq, hp, rfl⟩)
      (idle_goto h (idle_flag h hp (by simp))) ht
  | potStart =>
    have hf := idle_flag h hp (by simp)
    exact run _ _ (by rw [State.mainOp, hp]) (exec_potStart_next.mpr ⟨hq, hp, rfl⟩)
      (idle_goto ⟨h.rx, h.conf, h.sched, h.buttons, h.flag, h.pot, h.looping⟩ hf) ht
  | potWait =>
    have hf := idle_flag h hp (by simp)
    by_cases hb : s.adcBusy = true
    · have hw : idleWords 2 s = [encode (.envAdcDone 0#10)] := by simp [idleWords, State.mainOp, hp, hb]
      have hd : decode (encode (.envAdcDone 0#10)) = .ok (.envAdcDone 0#10) := by decide
      refine ⟨{ s with adcData := 0#10, adcBusy := false }, ?_,
        ⟨h.rx, h.conf, h.sched, h.buttons, h.flag, ⟨h.pot.1, rfl⟩, h.looping⟩, ht⟩
      simp only [hw, step, takeWord, hd]
      exact exec_envAdcDone_next.mpr ⟨hb, by simp [h.sched]⟩
    · replace hb : s.adcBusy = false := by simpa using hb
      have hx : exceedsThreshold s.adcData s.lastPot = false := by simp [exceedsThreshold, h.pot]
      refine run _ _ (by simp [State.mainOp, hp, hb]) (exec_potRead_next.mpr ⟨hq, hp, hb, rfl⟩) ?_ ?_
      · rw [potReadBody, hx]; exact idle_goto h hf
      · rw [potReadBody, hx]; exact ht
  | confCheck =>
    have hf := idle_flag h hp (by simp)
    refine run _ _ (by rw [State.mainOp, hp]) (exec_confCheck_next.mpr ⟨hq, hp, rfl⟩) ?_ ?_
    · rw [confCheckBody, hf]; exact idle_goto h hf
    · rw [confCheckBody, hf]; exact ht
  | confWait =>
    exact run _ _ (by rw [State.mainOp, hp]) (exec_confWaitEnd_next.mpr ⟨hq, hp, rfl⟩)
      ⟨h.rx, h.conf, h.sched, h.buttons, nofun, h.pot, _, rfl⟩ ht

theorem idle_step {s : State} (n : Nat) (h : Idle s) (ht : s.tickPending = (n % 3 == 1)) :
    ∃ t, step { s with sched := idleWords n s } = .next t ∧ Idle t ∧ t.tickPending = ((n + 1) % 3 == 1) := by
  obtain h0 | h1 | h2 : n % 3 = 0 ∨ n % 3 = 1 ∨ n % 3 = 2 := by omega
  · obtain ⟨hr, hc, hs, hb, hf, hp, hq⟩ := h
    rw [idleWords, h0, show (n + 1) % 3 = 1 by omega]
    exact ⟨_, rfl, ⟨hr, hc, rfl, hb, hf, hp, hq⟩, rfl⟩
  · obtain ⟨hr, hc, hs, hb, hf, hp, hq⟩ := h
    rw [idleWords, h1, show (n + 1) % 3 = 2 by omega]
    rw [h1] at ht
    replace ht : s.tickPending = true := ht
    obtain ⟨_, _, _, _, _, _, _, _, _, _, _, _, _, _, _, _, _, _, _, _, _, _, _, _, _, _, _, _, _⟩ := s
    subst hr hc ht
    exact ⟨_, rfl, ⟨rfl, rfl, rfl, hb, hf, hp, hq⟩, rfl⟩
  · rw [h2] at ht
    rw [show idleWords n s = idleWords 2 s by rw [idleWords, h2]; rfl, show (n + 1) % 3 = 0 by omega]
    exact idle_main_step h ht

theorem idleRun_idle (p : LoopPhase) (n : Nat) :
    Idle (idleRun p n) ∧ (idleRun p n).tickPending = (n % 3 == 1) := by
  induction n with
  | zero => exact ⟨⟨rfl, rfl, rfl, rfl, fun h => by rw [of_decide_eq_true h]; rfl, ⟨rfl, rfl⟩, p, rfl⟩, rfl⟩
  | succ n ih =>
    obtain ⟨t, hs, ht⟩ := idle_step n ih.1 ih.2
    rw [idleRun, hs]; exact ht

/-- Every hypothesis of FairRunsLightEveryPositionAndTakeMain is met by a run from any position of the loop, waits included. -/
theorem witness_FairRunsLightEveryPositionAndTakeMain (p : LoopPhase) :
    let words := fun n => idleWords n (idleRun p n)
    IsRun (idleRun p) words ∧ Fair (idleRun p) words ∧ ∀ n, words n ≠ [encode .reset] := by
  refine ⟨fun n => ⟨(idleRun_idle p n).1.sched, ?_, (idleRun_idle p (n + 1)).1.sched, ?_⟩, ⟨?_, ?_, ?_⟩, fun n => ?_⟩
  · show idleWords n (idleRun p n) ≠ []
    unfold idleWords; repeat' split
    all_goals simp
  · obtain ⟨t, hs, -⟩ := idle_step n (idleRun_idle p n).1 (idleRun_idle p n).2
    rw [hs, idleRun, hs]
  · intro n hp
    obtain ⟨h, ht⟩ := idleRun_idle p n
    have h1 : n % 3 = 1 := by simpa [State.anyPending, h.rx, h.conf, ht] using hp
    exact ⟨n, le_refl n, by simp [idleWords, State.dueWords, State.dueServices, h.rx, h.conf, ht, h1]⟩
  · intro i n hstay
    refine ⟨3 * n + 2, by omega, ?_⟩
    simp only [idleWords, show (3 * n + 2) % 3 = 2 by omega, hstay (3 * n + 2) (by omega)]
  · intro n
    exact ⟨3 * n, by omega, by simp only [idleWords, show 3 * n % 3 = 0 by omega]⟩
  · show idleWords n (idleRun p n) ≠ _
    unfold idleWords; split
    · decide
    · decide
    · split
      · rename_i i hi
        intro h
        have hd := (mainOp_decodes hi).1
        rw [List.singleton_inj.mp h] at hd
        cases hd
        rw [State.mainOp] at hi; repeat' split at hi
        all_goals cases hi
      · decide

/-- Both waits, and a MAIN operation to take, at the start of such a run. -/
theorem witness_FairRunsLightEveryPositionAndTakeMain_waits :
    (idleRun (.btnWait 8) 0).phase = .loop (.btnWait 8) ∧ (idleRun .confWait 0).phase = .loop .confWait ∧
    (idleRun .confWait 0).confirmFlag = true ∧ (idleRun (.btnWait 8) 0).mainOp = some (.btnWaitEnd 8#4) := by decide

theorem witness_ControlBytesSetOneIndicator :
    (pendingByte 0x47#8 midLine).rxPending = true ∧ (pendingByte 0x47#8 midLine).rxData = 0x47#8 ∧
    (pendingByte 0x50#8 midLine).rxData = 0x50#8 ∧ (pendingByte 0x45#8 midLine).rxData = 0x45#8 ∧
    boot.rxPending = false := by decide
theorem witness_ClearByteZeroesScore :
    (pendingByte 0x58#8 midLine).rxPending = true ∧ (pendingByte 0x58#8 midLine).rxData = 0x58#8 ∧
    (pendingByte 0x47#8 midLine).rxData ≠ 0x58#8 := by decide
theorem witness_OrdinaryByteIsKeptOrDropped :
    0x67#8 ∉ [0x47#8, 0x50#8, 0x45#8, 0x58#8, 0x0D#8, 0x0A#8] ∧ (pendingByte 0x67#8 fullLine).rxData = 0x67#8 ∧
    (pendingByte 0x67#8 { fullLine with rxLen := 8#4 }).rxLen.toNat < 9 ∧ 9 ≤ (pendingByte 0x67#8 fullLine).rxLen.toNat ∧
    boot.rxPending = false := by decide
theorem witness_TerminatorEvaluatesLine_valid :
    let line := (pendingByte 0x0D#8 fullLine).rxBuf.toList.take (pendingByte 0x0D#8 fullLine).rxLen.toNat
    5 ≤ line.length ∧ line.take 4 = [0x53#8, 0x43#8, 0x52#8, 0x3A#8] ∧
      ∀ c ∈ line.drop 4, 0x30 ≤ c.toNat ∧ c.toNat ≤ 0x39 := by decide
theorem witness_TerminatorEvaluatesLine_shortest :
    let line := ({ fullLine with rxLen := 5#4 } : State).rxBuf.toList.take 5
    5 ≤ line.length ∧ line.take 4 = [0x53#8, 0x43#8, 0x52#8, 0x3A#8] ∧
      ∀ c ∈ line.drop 4, 0x30 ≤ c.toNat ∧ c.toNat ≤ 0x39 := by decide
theorem witness_TerminatorEvaluatesLine_invalid :
    let s := pendingByte 0x0A#8 { fullLine with rxLen := 4#4 }
    s.rxPending = true ∧ s.rxData = 0x0A#8 ∧ ¬ 5 ≤ (s.rxBuf.toList.take s.rxLen.toNat).length := by decide
theorem witness_ReceiveMachineNeverTransmits : isReceive .rxCr = true ∧
    ∃ t, exec .rxCr (pendingByte 0x0D#8 fullLine) = .next t := ⟨rfl, _, rfl⟩

theorem witness_ParserRefinesLineMachine : ∃ s : State, s.rxPending = false ∧ s.confPending = false ∧
    s.tickPending = false ∧ s.rxLen.toNat ≤ 9 ∧ s.sched = sendWords [0x53#8, 0x47#8, 0x0D#8] ++ [0x220000#24] :=
  ⟨{ fullLine with sched := sendWords [0x53#8, 0x47#8, 0x0D#8] ++ [0x220000#24] }, rfl, rfl, rfl, by decide, rfl⟩
theorem witness_ScoreLineSetsDigits : ∃ (s : State) (digits : List Byte), s.rxPending = false ∧ s.confPending = false ∧
    s.tickPending = false ∧ s.rxLen = 0#4 ∧ digits.length = 5 ∧ (∀ b ∈ digits, 0x30 ≤ b.toNat ∧ b.toNat ≤ 0x39) ∧
    s.sched = sendWords ([0x53#8, 0x43#8, 0x52#8, 0x3A#8] ++ digits ++ [0x0D#8]) ++ [] :=
  ⟨{ boot with sched := sendWords [0x53#8, 0x43#8, 0x52#8, 0x3A#8, 0x30#8, 0x39#8, 0x31#8, 0x32#8, 0x33#8, 0x0D#8] },
    [0x30#8, 0x39#8, 0x31#8, 0x32#8, 0x33#8], rfl, rfl, rfl, rfl, rfl, by decide, rfl⟩
theorem witness_OverlongLineKeepsNineBytes : ∃ (s : State) (bytes : List Byte), s.rxPending = false ∧
    s.confPending = false ∧ s.tickPending = false ∧ s.rxLen = 0#4 ∧ bytes.length = 15 ∧
    (∀ b ∈ bytes, b ∉ [0x47#8, 0x50#8, 0x45#8, 0x58#8, 0x0D#8, 0x0A#8]) ∧
    s.sched = sendWords (bytes ++ [0x0A#8]) ++ [] :=
  ⟨{ boot with sched := sendWords (List.replicate 15 0x31#8 ++ [0x0A#8]) }, List.replicate 15 0x31#8, rfl, rfl, rfl, rfl,
    rfl, by decide, rfl⟩
theorem witness_ControlOrTerminatorResynchronises : ∃ s1 s2 : State, s1.line ≠ s2.line ∧
    (∀ s ∈ [s1, s2], s.rxPending = false ∧ s.confPending = false ∧ s.tickPending = false ∧ s.rxLen.toNat ≤ 9 ∧
      s.sched = sendWords (0x58#8 :: [0x32#8, 0x0D#8])) ∧
    0x58#8 ∈ [0x47#8, 0x50#8, 0x45#8, 0x58#8, 0x0D#8, 0x0A#8] :=
  ⟨{ midLine with sched := sendWords [0x58#8, 0x32#8, 0x0D#8] }, { fullLine with sched := sendWords [0x58#8, 0x32#8, 0x0D#8] },
    by decide, by decide, by decide⟩
theorem witness_DecimalTextIsExact : dec [0x30#8, 0x37#8] = 7 ∧
    ∀ b ∈ [0x30#8, 0x37#8], 0x30 ≤ b.toNat ∧ b.toNat ≤ 0x39 := by decide

theorem witness_TxByteLoadsNextByte : (sending 5).txIdx + 1 < (sending 5).txLine.length ∧
    (sending 6).txIdx + 1 = (sending 6).txLine.length ∧ (sending 6).phase = .tx (.btnWait 3) ∧
    (sending 6).txEmpty = true ∧ (sending 6).anyPending = false ∧ boot.phase = .loop (.scan 0) := by decide
theorem witness_TxByteLoadsNextByte_busy : ∃ s : State, s.phase = .tx (.btnWait 3) ∧ s.txEmpty = false :=
  ⟨{ sending 3 with txEmpty := false }, rfl, rfl⟩
theorem witness_TxByteLoadsNextByte_done : ∃ s t : State, s.txEmpty = false ∧ exec .envTxDone s = .next t ∧ t.txEmpty = true :=
  ⟨{ sending 3 with txEmpty := false }, _, rfl, rfl, rfl⟩
theorem witness_TxIndexOutsideLineFaults : (sending 7).phase = .tx (.btnWait 3) ∧ (sending 7).txEmpty = true ∧
    (sending 7).anyPending = false ∧ (sending 7).txLine.length ≤ (sending 7).txIdx := by decide
theorem witness_EventLinesParseUniquely : [EventLine.confirm].flatMap EventLine.bytes = confirmText ++ lineEnd := by decide
theorem witness_TransmitStallHangsMain : ∃ s t : State, s.phase = .tx (.btnWait 3) ∧ s.txEmpty = false ∧
    (∀ w ∈ s.sched, w ≠ encode .envTxDone ∧ w ≠ encode .reset) ∧ runSteps 1 s = .next t := by
  obtain ⟨t, ht, -⟩ := outcomeHolds_next (r := runSteps 1 { sending 3 with txEmpty := false, sched := [0x220000#24] })
    (p := fun t => t.tickPending) (by decide)
  refine ⟨_, t, rfl, rfl, ?_, ht⟩
  intro w hw
  cases List.mem_singleton.mp hw
  decide
theorem witness_ConversionStallHangsMain : ∃ s t : State, s.phase = .loop .potWait ∧ s.adcBusy = true ∧
    (∀ w ∈ s.sched, (∀ v, w ≠ encode (.envAdcDone v)) ∧ w ≠ encode .reset) ∧ runSteps 1 s = .next t ∧
    t.tickPending = true ∧ t.sched = [] := by
  obtain ⟨t, ht, hp⟩ := outcomeHolds_next
    (r := runSteps 1 { atPhase .potWait with adcBusy := true, sched := [0x220000#24] })
    (p := fun t => t.tickPending && t.sched.isEmpty) (by decide)
  rw [Bool.and_eq_true, List.isEmpty_iff] at hp
  refine ⟨_, t, rfl, rfl, ?_, ht, hp⟩
  intro w hw
  cases List.mem_singleton.mp hw
  refine ⟨fun v h => ?_, by decide⟩
  have h16 := congrArg (BitVec.getLsbD · 16) h
  rw [show encode (.envAdcDone v) = opWord 0x23#8 (v.setWidth 16) from rfl, opWord, BitVec.getLsbD_append] at h16
  simp at h16
theorem witness_OnlyMainTransmits : (∃ t, exec .tick threePending = .next t) ∧
    ∃ t, exec .txByte (sending 0) = .next t ∧ t.txs ≠ (sending 0).txs := ⟨⟨_, rfl⟩, _, rfl, by decide⟩

theorem witness_ScanExaminesOneButton : (atPhase (.scan 8)).phase = .loop (.scan 8) ∧ (atPhase (.scan 8)).anyPending = false ∧
    ({ atPhase (.scan 8) with btnN := 0x0FF#9 } : State).btnN.getLsbD 8 = false ∧ (atPhase (.scan 8)).btnLatch[8] = false ∧
    (atPhase (.scan 8)).btnN.getLsbD 8 = true ∧
    ({ atPhase (.scan 8) with btnLatch := boot.btnLatch.set 8 true } : State).btnLatch[8] = true ∧
    (atPhase .potStart).phase ≠ .loop (.scan 8) := by decide
theorem witness_ScanIgnoresConfirmInput : (∃ t, exec (.scan 0#4) boot = .next t) ∧
    ∃ t, exec .confSvc threePending = .next t := ⟨⟨_, rfl⟩, _, rfl⟩
theorem witness_BtnWaitEndResumesScan : (atPhase (.btnWait 8)).phase = .loop (.btnWait 8) ∧
    (atPhase (.btnWait 8)).anyPending = false ∧ boot.phase ≠ .loop (.btnWait 8) := by decide
theorem witness_ConfSvcSetsFlag : threePending.confPending = true ∧ boot.confPending = false ∧
    ({ boot with sched := [0x020000#24] } : State).sched = encode .confSvc :: [] := by decide
theorem witness_ConfCheckReportsFlag : (atPhase .confCheck).phase = .loop .confCheck ∧
    (atPhase .confCheck).anyPending = false ∧ (atPhase .confCheck).confirmFlag = false ∧
    ({ atPhase .confCheck with confirmFlag := true } : State).confirmFlag = true := by decide
theorem witness_ConfCheckReportsFlag_reached : ∃ t, exec .potRead (atPhase .potWait) = .next t ∧
    t.phase = .loop .confCheck ∧ Instr.potRead.agent = .main :=
  ⟨_, rfl, rfl, rfl⟩
theorem witness_ConfWaitEndClearsFlag : (atPhase .confWait).phase = .loop .confWait ∧
    (atPhase .confWait).anyPending = false ∧ boot.phase ≠ .loop .confWait := by decide
theorem witness_PotStartStartsConversion : (atPhase .potStart).phase = .loop .potStart ∧
    (atPhase .potStart).anyPending = false ∧ (∃ t, exec .potStart (atPhase .potStart) = .next t ∧ t.adcBusy = true) ∧
    ∃ t, exec (.btnWaitEnd 8#4) (atPhase (.btnWait 8)) = .next t ∧ t.phase = .loop .potStart :=
  ⟨rfl, rfl, ⟨_, rfl, rfl⟩, _, rfl, rfl⟩
/-- A reading equal to the baseline meets the second clause for every threshold; the first needs one below 1023, so it is
met at the largest difference, 1023, exactly when the parameter is not 1023. -/
theorem witness_PotReadReportsLargeChange : (atPhase .potWait).phase = .loop .potWait ∧
    (atPhase .potWait).adcBusy = false ∧ (atPhase .potWait).anyPending = false ∧
    (((atPhase .potWait).adcData.toNat : Int) - ((atPhase .potWait).lastPot.toNat : Int)).natAbs ≤
      Config.potThreshold.toNat ∧
    (Config.potThreshold.toNat ≠ 1023 → ∃ s : State, s.phase = .loop .potWait ∧ s.adcBusy = false ∧ s.anyPending = false ∧
      Config.potThreshold.toNat < ((s.adcData.toNat : Int) - (s.lastPot.toNat : Int)).natAbs) := by
  refine ⟨rfl, rfl, rfl, Nat.zero_le _, fun h => ⟨{ atPhase .potWait with adcData := 1023#10 }, rfl, rfl, rfl, ?_⟩⟩
  have := Config.potThreshold.isLt
  show Config.potThreshold.toNat < 1023
  omega
theorem witness_HysteresisBoundsBaseline : ∃ t, exec .potRead (atPhase .potWait) = .next t := ⟨_, rfl⟩

theorem witness_MainRunsOnlyWithNothingPending : threePending.rxPending = true ∧ threePending.sched = [] ∧
    Instr.confCheck.agent = .main ∧ (Instr.scan 8#4).wellFormed = true := by decide
theorem witness_AtMostOneMainOperation : Instr.potStart.agent = .main ∧
    ∃ t, exec .potStart (atPhase .potStart) = .next t := ⟨rfl, _, rfl⟩
theorem witness_MainFollowsPhaseTable : (∃ t, exec .confCheck (atPhase .confCheck) = .next t) ∧
    ∃ t, exec .envTimer boot = .next t := ⟨⟨_, rfl⟩, _, rfl⟩
theorem witness_MainRunsOrWaits : Inv boot ∧ boot.rxPending = false ∧ boot.confPending = false ∧ boot.tickPending = false :=
  ⟨boot_inv, rfl, rfl, rfl⟩

theorem witness_EnvRxDeliversOneByte : boot.rxPending = false ∧ threePending.rxPending = true := by decide
theorem witness_EnvConfRaisesOnFallingEdge : boot.confN = true ∧ ({ boot with confN := false } : State).confN = false := by
  decide
theorem witness_HardwareCompletionsSetTheirFlags : ({ boot with adcBusy := true } : State).adcBusy = true ∧
    boot.adcBusy = false ∧ ({ boot with txEmpty := false } : State).txEmpty = false ∧ boot.txEmpty = true := by decide

theorem witness_DispatchServicesEverySource : threePending.rxPending = true ∧ threePending.confPending = true ∧
    threePending.tickPending = true := by decide
theorem witness_PendingFlagsFollowTheirSource : (∃ t, exec .rxX threePending = .next t ∧ t.rxPending = false) ∧
    (∃ t, exec (.envConf false) boot = .next t ∧ t.confPending = true) ∧ boot.confN = true ∧
    (∃ t, exec (.envRx 0x47#8) boot = .next t) ∧ (∃ t, exec .envTimer boot = .next t) ∧
    (∃ t, exec .confSvc threePending = .next t) ∧ ∃ t, exec .tick threePending = .next t :=
  ⟨⟨_, rfl, rfl⟩, ⟨_, rfl, rfl⟩, rfl, ⟨_, rfl⟩, ⟨_, rfl⟩, ⟨_, rfl⟩, _, rfl⟩
theorem witness_CursorIsTicksAlone : ∃ t, exec .tick { threePending with cursor := 3 } = .next t := ⟨_, rfl⟩
theorem witness_FieldsHaveTheirWriters : Instr.tick ≠ .reset ∧
    ∃ t, exec .tick threePending = .next t ∧ t.cursor ≠ threePending.cursor := ⟨by decide, _, rfl, by decide⟩
theorem witness_TracesOnlyGrow : Instr.rxX ≠ .reset ∧ ∃ t, exec .rxX threePending = .next t := ⟨by decide, _, rfl⟩
theorem witness_UnreadableValuesNeverMatter : ∃ s t : State, Inv s ∧ s ≠ t ∧ AgreeWhereReadable s t :=
  ⟨boot, { boot with rxData := 0x47#8, adcData := 7#10, rxBuf := midLine.rxBuf }, boot_inv, by decide,
    rfl, rfl, by decide, by decide⟩
theorem witness_MainSeesIsrOnlyThroughConfirmFlag : Instr.txByte.agent = .main ∧
    AgreeForMain (sending 0) { sending 0 with led := .red, cursor := 2, rxLen := 4#4 } ∧
    ∃ t, exec .txByte (sending 0) = .next t :=
  ⟨rfl, ⟨rfl, rfl, rfl, rfl, rfl, rfl, rfl, rfl, rfl, rfl, rfl⟩, _, rfl⟩

end Sys2Proof.Tests
end

section
/-! The frames of the groups of operations (10_state.md R49), and with them the statements of 10_state.md. -/

namespace Sys2Proof.Machine

open Sys2Proof.Safety

/-- t is s but for the fields of the receive service: the display buffer, the indicators, the line in progress, its own
pending flag and the port trace (10_state.md R49). -/
def ReceiveWrites (s t : State) : Prop :=
  ∃ disp led rxBuf rxLen ledG ledY ledR pt, t = { s with
    disp := disp, led := led, rxBuf := rxBuf, rxLen := rxLen, ledG := ledG, ledY := ledY, ledR := ledR, pt := pt,
    rxPending := false }

/-- t is s but for the fields MAIN writes, of which confirm_flag, adc_busy and tx_empty have one writer each
(10_state.md R49). -/
def MainWrites (i : Instr) (s t : State) : Prop :=
  ∃ btnLatch lastPot phase txLine txIdx txs, t = { s with
    btnLatch := btnLatch, lastPot := lastPot, phase := phase, txLine := txLine, txIdx := txIdx, txs := txs,
    confirmFlag := if i = .confWaitEnd then false else s.confirmFlag,
    adcBusy := if i = .potStart then true else s.adcBusy,
    txEmpty := if i = .txByte then false else s.txEmpty }

/-- t is s but for the fields the environment writes: it raises sources and tx_empty and clears adc_busy, never the reverse
(10_state.md R49). -/
def EnvWrites (s t : State) : Prop :=
  ∃ rxData rx conf tick adcData busy empty btnN confN timerPeriods, t = { s with
    rxData := rxData, adcData := adcData, btnN := btnN, confN := confN, timerPeriods := timerPeriods,
    rxPending := s.rxPending || rx, confPending := s.confPending || conf, tickPending := s.tickPending || tick,
    adcBusy := s.adcBusy && busy, txEmpty := s.txEmpty || empty }

variable {i : Instr} {s t : State}

theorem receiveWrites_terminator (s : State) : ReceiveWrites s (terminator (rxTake s)) := by
  rw [terminator, lineEval]
  split <;> exact ⟨_, _, _, _, _, _, _, _, rfl⟩

theorem receiveWrites_appendByte (b : Byte) (s : State) : ReceiveWrites s (appendByte b (rxTake s)) := by
  rw [appendByte]
  split <;> exact ⟨_, _, _, _, _, _, _, _, rfl⟩

/-- What a receive service can change. -/
theorem exec_receiveWrites (hi : isReceive i = true) (h : exec i s = .next t) : ReceiveWrites s t := by
  cases i with
  | rxG => obtain ⟨-, -, rfl⟩ := exec_rxG_next.mp h; exact ⟨_, _, _, _, _, _, _, _, rfl⟩
  | rxP => obtain ⟨-, -, rfl⟩ := exec_rxP_next.mp h; exact ⟨_, _, _, _, _, _, _, _, rfl⟩
  | rxE => obtain ⟨-, -, rfl⟩ := exec_rxE_next.mp h; exact ⟨_, _, _, _, _, _, _, _, rfl⟩
  | rxX => obtain ⟨-, -, rfl⟩ := exec_rxX_next.mp h; exact ⟨_, _, _, _, _, _, _, _, rfl⟩
  | rxCr => obtain ⟨-, -, rfl⟩ := exec_rxCr_next.mp h; exact receiveWrites_terminator s
  | rxLf => obtain ⟨-, -, rfl⟩ := exec_rxLf_next.mp h; exact receiveWrites_terminator s
  | rxOrd b => obtain ⟨-, -, -, rfl⟩ := exec_rxOrd_next.mp h; exact receiveWrites_appendByte b s
  | _ => cases hi

/-- What a tick can change. -/
theorem exec_tick_writes (h : exec .tick s = .next t) : ∃ segN digEn pt, t = { s with
    segN := segN, digEn := digEn, pt := pt, cursor := s.cursor + 1, tickPending := false } := by
  obtain ⟨-, rfl⟩ := exec_tick_next.mp h
  exact ⟨_, _, _, rfl⟩

/-- What an operation of MAIN's can change. -/
theorem exec_mainWrites (hi : i.agent = .main) (h : exec i s = .next t) : MainWrites i s t := by
  cases i with
  | txByte =>
    obtain ⟨next, b, -, -, -, -, rfl⟩ := exec_txByte_next.mp h
    rw [txByteBody]
    split <;> exact ⟨_, _, _, _, _, _, rfl⟩
  | scan k =>
    obtain ⟨k, -, -, -, rfl⟩ := exec_scan_next.mp h
    rw [scanBody]
    repeat' split
    all_goals exact ⟨_, _, _, _, _, _, rfl⟩
  | btnWaitEnd k => obtain ⟨k, -, -, -, rfl⟩ := exec_btnWaitEnd_next.mp h; exact ⟨_, _, _, _, _, _, rfl⟩
  | potStart => obtain ⟨-, -, rfl⟩ := exec_potStart_next.mp h; exact ⟨_, _, _, _, _, _, rfl⟩
  | potRead =>
    obtain ⟨-, -, -, rfl⟩ := exec_potRead_next.mp h
    rw [potReadBody]
    split <;> exact ⟨_, _, _, _, _, _, rfl⟩
  | confCheck =>
    obtain ⟨-, -, rfl⟩ := exec_confCheck_next.mp h
    rw [confCheckBody]
    split <;> exact ⟨_, _, _, _, _, _, rfl⟩
  | confWaitEnd => obtain ⟨-, -, rfl⟩ := exec_confWaitEnd_next.mp h; exact ⟨_, _, _, _, _, _, rfl⟩
  | _ => cases hi

/-- What an operation of the environment's can change. -/
theorem exec_envWrites (hi : i.agent = .env) (h : exec i s = .next t) : EnvWrites s t := by
  cases i with
  | envRx b =>
    obtain ⟨-, rfl⟩ := exec_envRx_next.mp h
    exact ⟨b, true, false, false, s.adcData, true, false, s.btnN, s.confN, s.timerPeriods, by simp⟩
  | envConf l =>
    obtain rfl := exec_envConf_next.mp h
    exact ⟨s.rxData, false, fallingEdge s.confN l, false, s.adcData, true, false, s.btnN, l, s.timerPeriods, by simp⟩
  | envTimer =>
    obtain rfl := exec_envTimer_next.mp h
    exact ⟨s.rxData, false, false, true, s.adcData, true, false, s.btnN, s.confN, s.timerPeriods + 1, by simp⟩
  | envAdcDone v =>
    obtain ⟨-, rfl⟩ := exec_envAdcDone_next.mp h
    exact ⟨s.rxData, false, false, false, v, false, false, s.btnN, s.confN, s.timerPeriods, by simp⟩
  | envTxDone =>
    obtain ⟨-, rfl⟩ := exec_envTxDone_next.mp h
    exact ⟨s.rxData, false, false, false, s.adcData, true, true, s.btnN, s.confN, s.timerPeriods, by simp⟩
  | envBtn v =>
    obtain rfl := exec_envBtn_next.mp h
    exact ⟨s.rxData, false, false, false, s.adcData, true, false, v, s.confN, s.timerPeriods, by simp⟩
  | _ => cases hi

theorem agent_power_iff : i.agent = .power ↔ i = .reset := by
  cases i <;> simp [Instr.agent]

/-- Settles O53: each group of operations changes only the fields of its frame, and each frame meets every row. -/
theorem fieldsHaveTheirWriters : Obligations.FieldsHaveTheirWriters := by
  intro i s t h hreset
  cases ha : i.agent with
  | power => exact absurd (agent_power_iff.mp ha) hreset
  | isr =>
    rcases agent_isr_iff.mp ha with hr | rfl | rfl
    · obtain ⟨_, _, _, _, _, _, _, _, rfl⟩ := exec_receiveWrites hr h
      simp +contextual [hr]
    · obtain ⟨-, rfl⟩ := exec_confSvc_next.mp h
      simp
    · obtain ⟨_, _, _, rfl⟩ := exec_tick_writes h
      simp
  | main =>
    obtain ⟨_, _, _, _, _, _, rfl⟩ := exec_mainWrites ha h
    simp +contextual
  | env =>
    obtain ⟨_, _, _, _, _, _, _, _, _, _, rfl⟩ := exec_envWrites ha h
    simp +contextual

/-- Settles O52: TICK's and RESET's next states are explicit, and the table of writers leaves the cursor no other writer. -/
theorem cursorIsTicksAlone : Obligations.CursorIsTicksAlone := by
  refine ⟨rfl, fun i s t h => ⟨?_, ?_, fun htick hreset => ?_⟩⟩
  · rintro rfl
    obtain ⟨_, _, _, rfl⟩ := exec_tick_writes h
    exact Fin.val_add s.cursor 1
  · rintro rfl
    obtain rfl := exec_reset_next.mp h
    rfl
  · obtain ⟨-, onlyTick, -⟩ := fieldsHaveTheirWriters i s t h hreset
    by_contra hmoved
    exact htick (onlyTick (.inl hmoved))

end Sys2Proof.Machine
end

section
/-! The digits of a score (40_display_mux.md R140): each is decimal, so it fits its 4-bit cell and nothing is cut off. -/

namespace Sys2Proof.Machine

@[simp] theorem scoreDigits_thousands (n : Nat) : (scoreDigits n)[0].toNat = min n 9999 / 1000 :=
  Nat.mod_eq_of_lt (show min n 9999 / 1000 < 2 ^ 4 by omega)

@[simp] theorem scoreDigits_hundreds (n : Nat) : (scoreDigits n)[1].toNat = min n 9999 / 100 % 10 :=
  Nat.mod_eq_of_lt (show min n 9999 / 100 % 10 < 2 ^ 4 by omega)

@[simp] theorem scoreDigits_tens (n : Nat) : (scoreDigits n)[2].toNat = min n 9999 / 10 % 10 :=
  Nat.mod_eq_of_lt (show min n 9999 / 10 % 10 < 2 ^ 4 by omega)

@[simp] theorem scoreDigits_units (n : Nat) : (scoreDigits n)[3].toNat = min n 9999 % 10 :=
  Nat.mod_eq_of_lt (show min n 9999 % 10 < 2 ^ 4 by omega)

/-- Settles O9, digit by digit; the clamp keeps even the thousands, which are not reduced modulo 10, below ten. -/
theorem updateScoreSplitsClampedScore : Obligations.UpdateScoreSplitsClampedScore := by
  intro n s
  exact ⟨_, rfl, scoreDigits_thousands n, scoreDigits_hundreds n, scoreDigits_tens n, scoreDigits_units n, rfl⟩

end Sys2Proof.Machine
end

section
/-! The receive machine never transmits (41_serial_rx.md R172). -/

namespace Sys2Proof.Machine

/-- Settles O19: what a receive service can change (`ReceiveWrites`) is R172's list, field by field. -/
theorem receiveMachineNeverTransmits : Obligations.ReceiveMachineNeverTransmits := by
  intro i s t hi h
  obtain ⟨disp, led, rxBuf, rxLen, ledG, ledY, ledR, pt, rfl⟩ := exec_receiveWrites hi h
  rfl

end Sys2Proof.Machine
end

section
/-! Serial transmit (42_serial_tx.md): TX_BYTE's effect (R200), and that the transmitter runs in MAIN alone (R202). -/

namespace Sys2Proof.Machine

variable {i : Instr} {s t : State} {next : LoopPhase}

/-! No ISR service calls emit or TxLoad (42_serial_tx.md R202). -/

theorem exec_isr_keeps_transmitter (hi : i.agent = .isr) (h : exec i s = .next t) :
    t.txs = s.txs ∧ t.txEmpty = s.txEmpty ∧ t.txLine = s.txLine ∧ t.txIdx = s.txIdx ∧ t.phase = s.phase := by
  rcases agent_isr_iff.mp hi with hr | rfl | rfl
  · obtain ⟨_, _, _, _, _, _, _, _, rfl⟩ := exec_receiveWrites hr h
    exact ⟨rfl, rfl, rfl, rfl, rfl⟩
  · obtain ⟨-, rfl⟩ := exec_confSvc_next.mp h
    exact ⟨rfl, rfl, rfl, rfl, rfl⟩
  · obtain ⟨_, _, _, rfl⟩ := exec_tick_writes h
    exact ⟨rfl, rfl, rfl, rfl, rfl⟩

theorem exec_env_keeps_line (hi : i.agent = .env) (h : exec i s = .next t) :
    t.txs = s.txs ∧ t.txLine = s.txLine ∧ t.txIdx = s.txIdx := by
  obtain ⟨_, _, _, _, _, _, _, _, _, _, rfl⟩ := exec_envWrites hi h
  exact ⟨rfl, rfl, rfl⟩

/-- Settles O31: of the four agents, ISR and environment keep the line, and the power cycle is RESET alone. -/
theorem onlyMainTransmits : Obligations.OnlyMainTransmits := by
  refine fun i s t h => ⟨fun hisr => exec_isr_keeps_transmitter hisr h, fun hreset hmoved => ?_⟩
  cases ha : i.agent with
  | main => rfl
  | power => exact absurd (agent_power_iff.mp ha) hreset
  | isr =>
    obtain ⟨htxs, -, hline, hidx, -⟩ := exec_isr_keeps_transmitter ha h
    simp [htxs, hline, hidx] at hmoved
  | env =>
    obtain ⟨htxs, hline, hidx⟩ := exec_env_keeps_line ha h
    simp [htxs, hline, hidx] at hmoved

/-! TX_BYTE (42_serial_tx.md R200). -/

theorem txByteBody_of_more {b : Byte} (h : s.txIdx + 1 < s.txLine.length) :
    txByteBody next b s = { s with txs := s.txs ++ [b], txEmpty := false, txIdx := s.txIdx + 1 } :=
  if_neg h.ne

theorem txByteBody_of_last {b : Byte} (h : s.txIdx + 1 = s.txLine.length) :
    txByteBody next b s =
      { s with txs := s.txs ++ [b], txEmpty := false, txIdx := s.txIdx + 1, phase := .loop next } :=
  if_pos h

theorem exec_txByte_of_busy (h : s.txEmpty = false) : exec .txByte s = .refused (.notEnabled .txByte) := by
  rw [exec, execTxByte]
  split <;> simp [h]

theorem exec_txByte_of_loop {p : LoopPhase} (h : s.phase = .loop p) :
    exec .txByte s = .refused (.notEnabled .txByte) := by
  simp [exec, execTxByte, h]

/-- In TX the phase shuts out every MAIN operation but TX_BYTE, whose own guard is the shift register (R261). -/
theorem exec_main_in_tx (hp : s.phase = .tx next) (hi : i.agent = .main) (h : exec i s = .next t) :
    i = .txByte ∧ s.txEmpty = true := by
  have notAt : ∀ {p : LoopPhase}, s.phase ≠ .loop p := by simp [hp]
  cases i with
  | txByte => obtain ⟨-, -, -, -, hempty, -⟩ := exec_txByte_next.mp h; exact ⟨rfl, hempty⟩
  | scan k => obtain ⟨_, -, -, hl, -⟩ := exec_scan_next.mp h; exact absurd hl notAt
  | btnWaitEnd k => obtain ⟨_, -, -, hl, -⟩ := exec_btnWaitEnd_next.mp h; exact absurd hl notAt
  | potStart => obtain ⟨-, hl, -⟩ := exec_potStart_next.mp h; exact absurd hl notAt
  | potRead => obtain ⟨-, hl, -⟩ := exec_potRead_next.mp h; exact absurd hl notAt
  | confCheck => obtain ⟨-, hl, -⟩ := exec_confCheck_next.mp h; exact absurd hl notAt
  | confWaitEnd => obtain ⟨-, hl, -⟩ := exec_confWaitEnd_next.mp h; exact absurd hl notAt
  | _ => cases hi

/-- `EnvWrites` lets tx_empty rise; of the environment's operations only ENV_TX_DONE raises it (60_exceptions.md R287). -/
theorem exec_env_keeps_txEmpty (hi : i.agent = .env) (hdone : i ≠ .envTxDone) (h : exec i s = .next t) :
    t.txEmpty = s.txEmpty := by
  cases i with
  | envRx b => obtain ⟨-, rfl⟩ := exec_envRx_next.mp h; rfl
  | envConf l => obtain rfl := exec_envConf_next.mp h; rfl
  | envTimer => obtain rfl := exec_envTimer_next.mp h; rfl
  | envAdcDone v => obtain ⟨-, rfl⟩ := exec_envAdcDone_next.mp h; rfl
  | envTxDone => exact absurd rfl hdone
  | envBtn v => obtain rfl := exec_envBtn_next.mp h; rfl
  | _ => cases hi

/-- The end of the wait for the shift register: the table of writers leaves it to the environment or to RESET. -/
theorem exec_sets_txEmpty (hs : s.txEmpty = false) (h : exec i s = .next t) (ht : t.txEmpty = true) :
    i = .envTxDone ∨ i = .reset := by
  by_contra hne
  obtain ⟨hdone, hreset⟩ := not_or.mp hne
  obtain ⟨-, -, -, -, -, -, onlyEnv, -⟩ := fieldsHaveTheirWriters i s t h hreset
  have henv : i.agent = .env := onlyEnv (by simp [hs, ht])
  simp [exec_env_keeps_txEmpty henv hdone h, hs] at ht

/-- Settles O25: TX_BYTE's next state in the middle and at the end of the line, and who can run while it cannot. -/
theorem txByteLoadsNextByte : Obligations.TxByteLoadsNextByte := by
  refine ⟨rfl, fun s => ⟨?_, exec_txByte_of_busy, ?_, fun i t => exec_sets_txEmpty, fun p => exec_txByte_of_loop⟩⟩
  · intro next hidx hphase hempty hrx hconf htick
    have hpending : s.anyPending = false := by simp [State.anyPending, hrx, hconf, htick]
    have hload : exec .txByte s = .next (txByteBody next s.txLine[s.txIdx] s) :=
      exec_txByte_next.mpr ⟨next, _, hphase, hpending, hempty, List.getElem?_eq_getElem hidx, rfl⟩
    exact ⟨fun hmore => by rw [hload, txByteBody_of_more hmore], fun hlast => by rw [hload, txByteBody_of_last hlast]⟩
  · intro next i t hphase hbusy hmain h
    obtain ⟨-, hempty⟩ := exec_main_in_tx hphase hmain h
    simp [hbusy] at hempty

end Sys2Proof.Machine
end

section
/-! The input sampler (43_input_sampler.md): SCAN examines one button (R220), and the confirm input and its steps stay
apart from the polled buttons (R227). -/

namespace Sys2Proof.Machine

variable {i : Fin 9} {s : State}

/-! SCAN's three cases (43_input_sampler.md R220); the raw button lines are active-low (R222). -/

theorem pressed_iff {v : BitVec 9} : pressed v i = true ↔ v.getLsbD i.val = false := by
  rw [pressed, Bool.not_eq_true']

theorem scanBody_of_newly_pressed (hbtn : s.btnN.getLsbD i.val = false) (hlatch : s.btnLatch[i] = false) :
    scanBody i s = emit (buttonText i) (.btnWait i) { s with btnLatch := s.btnLatch.set i true } := by
  rw [scanBody, if_pos (pressed_iff.mpr hbtn), if_neg (Bool.eq_false_iff.mp hlatch)]

theorem scanBody_of_not_pressed (hbtn : s.btnN.getLsbD i.val = true) :
    scanBody i s = goto (afterButton i) { s with btnLatch := s.btnLatch.set i false } := by
  rw [scanBody, if_neg (by simp [pressed_iff, hbtn])]

theorem scanBody_of_held (hbtn : s.btnN.getLsbD i.val = false) (hlatch : s.btnLatch[i] = true) :
    scanBody i s = goto (afterButton i) s := by
  rw [scanBody, if_pos (pressed_iff.mpr hbtn), if_pos hlatch]

theorem scanBody_setConfN (i : Fin 9) (s : State) (level : Bool) :
    scanBody i { s with confN := level } = { scanBody i s with confN := level } := by
  rw [scanBody, scanBody]
  split_ifs <;> rfl

/-! SCAN's operation word: its operand names a button, and its guard is MAIN's (44_sequencer.md R261). -/

theorem mainStep_of_elsewhere {op : Instr} {p : LoopPhase} {g : Bool} {u : State} (h : s.phase ≠ .loop p) :
    mainStep op p g u s = .refused (.notEnabled op) :=
  guarded_of_disabled (by simp [h])

theorem buttonIndex_ofNat (i : Fin 9) : buttonIndex (BitVec.ofNat 4 i.val) = some i :=
  buttonIndex_some.mpr (Nat.mod_eq_of_lt (by omega))

theorem exec_scan_ofNat (i : Fin 9) (s : State) : exec (.scan (BitVec.ofNat 4 i.val)) s =
    mainStep (.scan (BitVec.ofNat 4 i.val)) (.scan i) true (scanBody i s) s := by
  rw [exec, execScan, buttonIndex_ofNat]

/-- Settles O32: the three cases of `scanBody`, under SCAN's guard. -/
theorem scanExaminesOneButton : Obligations.ScanExaminesOneButton := by
  refine ⟨by decide, rfl, fun s i => ⟨by revert i; decide, fun hphase hrx hconf htick => ?_, fun hphase => ?_⟩⟩
  · have hrun : exec (.scan (BitVec.ofNat 4 i.val)) s = .next (scanBody i s) := by
      rw [exec_scan_ofNat]
      exact mainStep_next.mpr ⟨by simp [State.anyPending, hrx, hconf, htick], hphase, rfl, rfl⟩
    rw [hrun]
    refine ⟨fun hbtn hlatch => ?_, fun hbtn => ?_, fun hbtn hlatch => ?_⟩
    · rw [scanBody_of_newly_pressed hbtn hlatch]; rfl
    · rw [scanBody_of_not_pressed hbtn]; rfl
    · rw [scanBody_of_held hbtn hlatch]; rfl
  · rw [exec_scan_ofNat, mainStep_of_elsewhere hphase]

/-- Settles O33: `scanBody` and SCAN's guard commute with a write of conf_n, and of the confirm button's steps each next
state is explicit. -/
theorem scanIgnoresConfirmInput : Obligations.ScanIgnoresConfirmInput := by
  refine ⟨fun s t k level h => ?_, fun s t i hi h => ?_⟩
  · obtain ⟨j, hj, hpending, hphase, rfl⟩ := exec_scan_next.mp h
    exact exec_scan_next.mpr ⟨j, hj, hpending, hphase, (scanBody_setConfN j s level).symm⟩
  · simp only [List.mem_cons, List.not_mem_nil, or_false] at hi
    rcases hi with rfl | rfl | rfl | rfl | rfl
    · obtain rfl := exec_envConf_next.mp h; exact ⟨rfl, rfl⟩
    · obtain rfl := exec_envConf_next.mp h; exact ⟨rfl, rfl⟩
    · obtain ⟨-, rfl⟩ := exec_confSvc_next.mp h; exact ⟨rfl, rfl⟩
    · obtain ⟨-, -, rfl⟩ := exec_confCheck_next.mp h
      rw [confCheckBody]
      split <;> exact ⟨rfl, rfl⟩
    · obtain ⟨-, -, rfl⟩ := exec_confWaitEnd_next.mp h; exact ⟨rfl, rfl⟩

end Sys2Proof.Machine
end

section
/-! Exceptions (60_exceptions.md): the environment's inputs ENV_CONF (R282) and ENV_BTN (R288), and the pending flags of the
three sources (R289). -/

namespace Sys2Proof.Machine

open Sys2Proof.Safety

variable {i : Instr} {s t : State}

/-! The inputs. -/

/-- An operand narrower than its 16 bits adds to the class's word: the fields of a word do not overlap
(30_encoding.md R110). -/
theorem opWord_setWidth {n : Nat} (hn : n ≤ 16) (c : BitVec 8) (v : BitVec n) :
    opWord c (v.setWidth 16) = opWord c 0#16 + v.setWidth 24 := by
  have hv : v.toNat < 2 ^ 16 := v.isLt.trans_le (Nat.pow_le_pow_right (by decide) hn)
  have hc : c.toNat < 2 ^ 8 := c.isLt
  have happ : ∀ o : BitVec 16, (opWord c o).toNat = c.toNat * 2 ^ 16 + o.toNat := fun o => by
    rw [opWord, BitVec.toNat_append, ← Nat.shiftLeft_add_eq_or_of_lt o.isLt, Nat.shiftLeft_eq]
  apply BitVec.eq_of_toNat_eq
  simp only [BitVec.toNat_add, happ, BitVec.toNat_setWidth, BitVec.toNat_ofNat]
  omega

/-- Settles O48: ENV_BTN has no guard, and its operand is the low bits of its word. -/
theorem envBtnSetsButtons : Obligations.EnvBtnSetsButtons :=
  fun _ v => ⟨opWord_setWidth (by decide) 0x25#8 v, exec_envBtn_next.mpr rfl⟩

/-- A repeated level is no edge (60_exceptions.md R282). -/
theorem exec_envConf_same_level (s : State) : exec (.envConf s.confN) s = .next s :=
  exec_envConf_next.mpr (by simp [fallingEdge])

/-- Settles O46: with conf_n 1 ENV_CONF(0) is a falling edge, with conf_n 0 it repeats the level. -/
theorem envConfRaisesOnFallingEdge : Obligations.EnvConfRaisesOnFallingEdge := by
  refine ⟨rfl, rfl, fun s => ⟨fun hhigh => ?_, fun hlow => ?_, ?_⟩⟩
  · exact exec_envConf_next.mpr (by simp [fallingEdge, hhigh])
  · exact hlow ▸ exec_envConf_same_level s
  · exact exec_envConf_next.mpr (by simp [fallingEdge])

/-! The pending flags (60_exceptions.md R289). -/

/-- Which operation a change of a pending flag comes from. -/
theorem exec_pending_changes (h : exec i s = .next t) :
    (s.rxPending = false → t.rxPending = true → ∃ b, i = .envRx b) ∧
    (s.confPending = false → t.confPending = true → i = .envConf false) ∧
    (s.tickPending = false → t.tickPending = true → i = .envTimer) ∧
    (s.rxPending = true → t.rxPending = false → isReceive i = true ∨ i = .reset) ∧
    (s.confPending = true → t.confPending = false → i = .confSvc ∨ i = .reset) ∧
    (s.tickPending = true → t.tickPending = false → i = .tick ∨ i = .reset) := by
  cases ha : i.agent with
  | power =>
    obtain rfl := agent_power_iff.mp ha
    obtain rfl := exec_reset_next.mp h
    simp [resetBody, State.reset]
  | isr =>
    rcases agent_isr_iff.mp ha with hr | rfl | rfl
    · obtain ⟨_, _, _, _, _, _, _, _, rfl⟩ := exec_receiveWrites hr h
      simp +contextual [hr]
    · obtain ⟨-, rfl⟩ := exec_confSvc_next.mp h
      simp +contextual
    · obtain ⟨_, _, _, rfl⟩ := exec_tick_writes h
      simp +contextual
  | main =>
    obtain ⟨_, _, _, _, _, _, rfl⟩ := exec_mainWrites ha h
    simp +contextual
  | env =>
    cases i with
    | envRx b => obtain ⟨-, rfl⟩ := exec_envRx_next.mp h; simp +contextual
    | envConf l => obtain rfl := exec_envConf_next.mp h; simp +contextual [fallingEdge]
    | envTimer => obtain rfl := exec_envTimer_next.mp h; simp +contextual
    | envAdcDone v => obtain ⟨-, rfl⟩ := exec_envAdcDone_next.mp h; simp +contextual
    | envTxDone => obtain ⟨-, rfl⟩ := exec_envTxDone_next.mp h; simp +contextual
    | envBtn v => obtain rfl := exec_envBtn_next.mp h; simp +contextual
    | _ => cases ha

/-- What each source's ENV step and service do to its flag. -/
theorem exec_pending_effects (h : exec i s = .next t) :
    ((∃ b, i = .envRx b) → t.rxPending = true) ∧
    (i = .envConf false → s.confN = true → t.confPending = true) ∧
    (i = .envTimer → t.tickPending = true) ∧
    (isReceive i = true → t.rxPending = false) ∧
    (i = .confSvc → t.confPending = false) ∧
    (i = .tick → t.tickPending = false) := by
  refine ⟨?_, ?_, ?_, fun hr => ?_, ?_, ?_⟩
  · rintro ⟨b, rfl⟩
    obtain ⟨-, rfl⟩ := exec_envRx_next.mp h
    rfl
  · rintro rfl hhigh
    obtain rfl := exec_envConf_next.mp h
    simp [fallingEdge, hhigh]
  · rintro rfl
    obtain rfl := exec_envTimer_next.mp h
    rfl
  · obtain ⟨_, _, _, _, _, _, _, _, rfl⟩ := exec_receiveWrites hr h
    rfl
  · rintro rfl
    obtain ⟨-, rfl⟩ := exec_confSvc_next.mp h
    rfl
  · rintro rfl
    obtain ⟨_, _, _, rfl⟩ := exec_tick_writes h
    rfl

/-- A pending byte's service can run whatever its class, by R160's choice of the operation from the byte. -/
theorem exec_rxInstr_completes (hrx : s.rxPending = true) : ∃ t, exec (rxInstr s.rxData) s = .next t :=
  receiveService_eq ▸ receiveService_completes hrx

/-- Settles O50: no flag is masked, for a pending source's service has no further guard. -/
theorem pendingFlagsFollowTheirSource : Obligations.PendingFlagsFollowTheirSource := by
  refine ⟨fun i s t h => ?_, fun s => ⟨exec_rxInstr_completes,
    fun hconf => ⟨_, exec_confSvc_next.mpr ⟨hconf, rfl⟩⟩, fun htick => ⟨_, exec_tick_next.mpr ⟨htick, rfl⟩⟩⟩⟩
  obtain ⟨rxRaised, confRaised, tickRaised, rxCleared, confCleared, tickCleared⟩ := exec_pending_changes h
  exact ⟨rxRaised, confRaised, tickRaised, rxCleared, confCleared, tickCleared, exec_pending_effects h⟩

end Sys2Proof.Machine
end

section
/-! Operation words (30_encoding.md section 5): the operand fields of the class table, each read and written once, and
with them the words that decode (R111) and the ones that do not (R112). -/

namespace Sys2Proof.Machine

open Sys2Proof.Laws.OpWordClass (opClass_opWord opOperand_opWord)

variable {i : Instr} {o : BitVec 16} {n : Nat}

/-! The two parts of a word (30_encoding.md R110). -/

theorem opClass_toNat (w : OpWord) : (opClass w).toNat = w.toNat / 65536 := by
  have hw := w.isLt
  rw [opClass, BitVec.extractLsb'_toNat, Nat.shiftRight_eq_div_pow]
  omega

theorem opOperand_toNat (w : OpWord) : (opOperand w).toNat = w.toNat % 65536 := by
  rw [opOperand, BitVec.extractLsb'_toNat, Nat.shiftRight_eq_div_pow]
  omega

theorem opWord_opClass_opOperand (w : OpWord) : opWord (opClass w) (opOperand w) = w := by
  apply BitVec.eq_of_toNat_eq
  rw [opWord, BitVec.toNat_append, ← Nat.shiftLeft_add_eq_or_of_lt (opOperand w).isLt, Nat.shiftLeft_eq, opClass_toNat,
    opOperand_toNat]
  omega

theorem decode_opWord (c : BitVec 8) (o : BitVec 16) : decode (opWord c o) = decodeRow c.toNat o := by
  rw [decode, opClass_opWord, opOperand_opWord]

/-! The operand fields (30_encoding.md R111, R112). -/

theorem noOperand_ok {j : Instr} : noOperand o j = .ok i ↔ o = 0#16 ∧ i = j := by
  by_cases ho : o = 0#16
  · simp only [noOperand, ho, if_true, Except.ok.injEq, true_and, eq_comm]
  · simp only [noOperand, ho, if_false, reduceCtorEq, false_and]

theorem withField_ok {f : BitVec n → Instr} (hn : n ≤ 16) :
    withField n o f = .ok i ↔ ∃ v : BitVec n, o = v.setWidth 16 ∧ i = f v := by
  constructor
  · intro h
    rw [withField] at h
    split at h
    · rename_i ho
      cases h
      refine ⟨o.setWidth n, BitVec.eq_of_toNat_eq ?_, rfl⟩
      rw [BitVec.toNat_setWidth_of_le hn, BitVec.toNat_setWidth, Nat.mod_eq_of_lt ho]
    · cases h
  · rintro ⟨v, rfl, rfl⟩
    rw [withField, BitVec.toNat_setWidth_of_le hn, if_pos v.isLt, BitVec.setWidth_setWidth_of_le v hn,
      BitVec.setWidth_eq]

theorem withIndex_ok {f : BitVec 4 → Instr} :
    withIndex o f = .ok i ↔ ∃ v : BitVec 4, v.toNat ≤ 8 ∧ o = v.setWidth 16 ∧ i = f v := by
  have hfield : withIndex o f = .ok i ↔ o.toNat ≤ 8 ∧ withField 4 o f = .ok i := by
    rw [withIndex, withField]
    split_ifs <;> simp [*] <;> omega
  rw [hfield, withField_ok (by decide)]
  constructor
  · rintro ⟨ho, v, rfl, rfl⟩
    exact ⟨v, by rwa [BitVec.toNat_setWidth_of_le (by decide)] at ho, rfl, rfl⟩
  · rintro ⟨v, hv, rfl, rfl⟩
    exact ⟨by rwa [BitVec.toNat_setWidth_of_le (by decide)], v, rfl, rfl⟩

/-! The receive words, whose mnemonic follows from the byte (30_encoding.md R111). -/

theorem isOrdinary_iff {b : Byte} : isOrdinary b = true ↔ b ∉ [0x47#8, 0x50#8, 0x45#8, 0x58#8, 0x0D#8, 0x0A#8] := by
  rw [isOrdinary, classify]
  split_ifs <;> simp [*]

theorem rxInstr_of_ordinary {b : Byte} (h : isOrdinary b = true) : rxInstr b = .rxOrd b := by
  rw [rxInstr, beq_iff_eq.mp h]

/-- i is well-formed and its word is that of class c and operand o. -/
def EncodesTo (i : Instr) (c : BitVec 8) (o : BitVec 16) : Prop := i.wellFormed = true ∧ encode i = opWord c o

theorem rxInstr_encodesTo (b : Byte) : EncodesTo (rxInstr b) 0x01#8 (b.setWidth 16) := by
  by_cases hb : isOrdinary b = true
  · rw [rxInstr_of_ordinary hb]
    exact ⟨hb, rfl⟩
  · rw [isOrdinary_iff, not_not] at hb
    simp only [List.mem_cons, List.not_mem_nil, or_false] at hb
    rcases hb with rfl | rfl | rfl | rfl | rfl | rfl <;> exact ⟨rfl, rfl⟩

/-! The rows of the class table (30_encoding.md R111). -/

theorem encodesTo_of_noOperand {c : BitVec 8} {j : Instr} (hj : EncodesTo j c 0#16) (h : noOperand o j = .ok i) :
    EncodesTo i c o := by
  obtain ⟨rfl, rfl⟩ := noOperand_ok.mp h
  exact hj

theorem encodesTo_of_withField {c : BitVec 8} {f : BitVec n → Instr} (hn : n ≤ 16)
    (hf : ∀ v, EncodesTo (f v) c (v.setWidth 16)) (h : withField n o f = .ok i) : EncodesTo i c o := by
  obtain ⟨v, rfl, rfl⟩ := (withField_ok hn).mp h
  exact hf v

theorem encodesTo_of_withIndex {c : BitVec 8} {f : BitVec 4 → Instr}
    (hf : ∀ v : BitVec 4, v.toNat ≤ 8 → EncodesTo (f v) c (v.setWidth 16)) (h : withIndex o f = .ok i) :
    EncodesTo i c o := by
  obtain ⟨v, hv, rfl, rfl⟩ := withIndex_ok.mp h
  exact hf v hv

theorem decodeRow_encodesTo {k : Nat} (hk : k < 256) (h : decodeRow k o = .ok i) :
    EncodesTo i (BitVec.ofNat 8 k) o := by
  -- The rows of the table in their order; those with an operand field first, the rest have none.
  unfold decodeRow at h
  split at h
  case h_2 => exact encodesTo_of_withField (by decide) rxInstr_encodesTo h
  case h_6 => exact encodesTo_of_withIndex (f := .scan) (fun v hv => ⟨decide_eq_true hv, rfl⟩) h
  case h_7 => exact encodesTo_of_withIndex (f := .btnWaitEnd) (fun v hv => ⟨decide_eq_true hv, rfl⟩) h
  case h_12 => exact encodesTo_of_withField (by decide) (fun v => ⟨rfl, rfl⟩) h
  case h_13 => exact encodesTo_of_withField (by decide) (by unfold EncodesTo; decide) h
  case h_15 => exact encodesTo_of_withField (by decide) (fun v => ⟨rfl, rfl⟩) h
  case h_17 => exact encodesTo_of_withField (by decide) (fun v => ⟨rfl, rfl⟩) h
  case h_18 => cases h
  all_goals exact encodesTo_of_noOperand ⟨rfl, rfl⟩ h

theorem decode_encodesTo {w : OpWord} (h : decode w = .ok i) : EncodesTo i (opClass w) (opOperand w) := by
  have := decodeRow_encodesTo (opClass w).isLt h
  rwa [BitVec.ofNat_toNat, BitVec.setWidth_eq] at this

/-- A well-formed operation is what its word decodes to. -/
theorem decode_encode (h : i.wellFormed = true) : decode (encode i) = .ok i := by
  cases i with
  | rxOrd b => exact (decode_opWord _ _).trans ((withField_ok (by decide)).mpr ⟨b, rfl, (rxInstr_of_ordinary h).symm⟩)
  | scan k => exact (decode_opWord _ _).trans (withIndex_ok.mpr ⟨k, of_decide_eq_true h, rfl, rfl⟩)
  | btnWaitEnd k => exact (decode_opWord _ _).trans (withIndex_ok.mpr ⟨k, of_decide_eq_true h, rfl, rfl⟩)
  | envRx b => exact (decode_opWord _ _).trans ((withField_ok (by decide)).mpr ⟨b, rfl, rfl⟩)
  | envConf l => revert l; decide
  | envAdcDone v => exact (decode_opWord _ _).trans ((withField_ok (by decide)).mpr ⟨v, rfl, rfl⟩)
  | envBtn v => exact (decode_opWord _ _).trans ((withField_ok (by decide)).mpr ⟨v, rfl, rfl⟩)
  | _ => decide

/-- Settles O1: each row of the class table is read back by the field it was written with. -/
theorem encodingRoundTrips : Obligations.EncodingRoundTrips := by
  refine ⟨fun i => decode_encode, fun w i h => ?_⟩
  obtain ⟨hwf, henc⟩ := decode_encodesTo h
  exact ⟨hwf, henc.trans (opWord_opClass_opOperand w)⟩

/-! The ill-formed words (30_encoding.md R112). -/

/-- The classes of 30_encoding.md R111 with the operands their fields hold. -/
def Accepted (k m : Nat) : Prop :=
  (k ∈ [0x00, 0x02, 0x03, 0x10, 0x13, 0x14, 0x15, 0x16, 0x22, 0x24] ∧ m = 0) ∨
  (k ∈ [0x01, 0x20] ∧ m < 256) ∨
  (k ∈ [0x11, 0x12] ∧ m ≤ 8) ∨
  (k = 0x21 ∧ m < 2) ∨ (k = 0x23 ∧ m < 1024) ∨ (k = 0x25 ∧ m < 512)

theorem noOperand_error {j : Instr} : (∃ r, noOperand o j = .error r) ↔ o.toNat ≠ 0 := by
  have hzero : o.toNat = 0 ↔ o = 0#16 := BitVec.toNat_inj (y := 0#16)
  rw [Ne, hzero, noOperand]
  split <;> simp [*]

theorem withField_error {f : BitVec n → Instr} : (∃ r, withField n o f = .error r) ↔ 2 ^ n ≤ o.toNat := by
  rw [withField]
  split <;> simp <;> omega

theorem withIndex_error {f : BitVec 4 → Instr} : (∃ r, withIndex o f = .error r) ↔ 8 < o.toNat := by
  rw [withIndex]
  split_ifs <;> simp <;> omega

theorem decodeRow_error (k : Nat) : (∃ r, decodeRow k o = .error r) ↔ ¬ Accepted k o.toNat := by
  unfold decodeRow
  split
  case h_18 =>
    refine iff_of_true ⟨_, rfl⟩ ?_
    simp_all [Accepted]
  case h_13 => simp [Accepted, withField_error]; omega
  all_goals simp [Accepted, noOperand_error, withField_error, withIndex_error]

/-- Settles O2: `decodeRow` rejects by class and field, and both MAIN operations with an index check it again. -/
theorem illFormedWordsAreRefused : Obligations.IllFormedWordsAreRefused := by
  refine ⟨fun w => ?_, fun s w rest r hs hw => ?_, fun s k hk => ?_⟩
  · rw [decode, decodeRow_error, opClass_toNat, opOperand_toNat, Accepted]
  · rw [step, hs]
    simp only [takeWord, hw]
  · have hk := buttonIndex_none.mpr hk
    simp only [exec, execScan, execBtnWaitEnd, hk, and_self]

/-- Settles O3 by evaluation. -/
theorem specWordsDecode : Obligations.SpecWordsDecode := by
  unfold Obligations.SpecWordsDecode
  decide

end Sys2Proof.Machine
end

section
/-! The output ports and the port trace PT: what one operation writes to them, and with it that the ports follow PT
(10_state.md R38, R39), that PT only grows, and no ghosting (40_display_mux.md R133). -/

namespace Sys2Proof.Machine

open Sys2Proof.Safety

variable {i : Instr} {s t : State} {pt : List PortEvent}

/-- The output ports with their trace. -/
def State.ports (s : State) : List PortEvent × BitVec 4 × BitVec 8 × Bool × Bool × Bool :=
  (s.pt, s.digEn, s.segN, s.ledG, s.ledY, s.ledR)

/-- What one operation does to the output ports: nothing, one write of the indicator lines, or one digit of the display,
blanked first (40_display_mux.md R130, R142). -/
inductive PortStep (s t : State) : Prop where
  | keep (h : t.ports = s.ports)
  | leds (g y r : Bool) (h : t.ports = (portWrite (.leds g y r) s).ports)
  | digit (v : BitVec 8) (c : BitVec 4)
      (h : t.ports = (portWrite (.digEn c) (portWrite (.segN v) (portWrite (.digEn 0#4) s))).ports)

theorem ports_terminator (s : State) : (terminator s).ports = s.ports := by
  rw [terminator, lineEval]
  split <;> rfl

theorem ports_appendByte (b : Byte) (s : State) : (appendByte b s).ports = s.ports := by
  rw [appendByte]
  split <;> rfl

theorem exec_receive_portStep (hi : isReceive i = true) (h : exec i s = .next t) : PortStep s t := by
  cases i with
  | rxG => obtain ⟨-, -, rfl⟩ := exec_rxG_next.mp h; exact .leds _ _ _ rfl
  | rxP => obtain ⟨-, -, rfl⟩ := exec_rxP_next.mp h; exact .leds _ _ _ rfl
  | rxE => obtain ⟨-, -, rfl⟩ := exec_rxE_next.mp h; exact .leds _ _ _ rfl
  | rxX => obtain ⟨-, -, rfl⟩ := exec_rxX_next.mp h; exact .leds _ _ _ rfl
  | rxCr => obtain ⟨-, -, rfl⟩ := exec_rxCr_next.mp h; exact .keep (ports_terminator _)
  | rxLf => obtain ⟨-, -, rfl⟩ := exec_rxLf_next.mp h; exact .keep (ports_terminator _)
  | rxOrd b => obtain ⟨-, -, -, rfl⟩ := exec_rxOrd_next.mp h; exact .keep (ports_appendByte _ _)
  | _ => cases hi

theorem exec_portStep (hreset : i ≠ .reset) (h : exec i s = .next t) : PortStep s t := by
  cases ha : i.agent with
  | power => exact absurd (agent_power_iff.mp ha) hreset
  | isr =>
    rcases agent_isr_iff.mp ha with hr | rfl | rfl
    · exact exec_receive_portStep hr h
    · obtain ⟨-, rfl⟩ := exec_confSvc_next.mp h; exact .keep rfl
    · obtain ⟨-, rfl⟩ := exec_tick_next.mp h; exact .digit _ _ rfl
  | main => obtain ⟨_, _, _, _, _, _, rfl⟩ := exec_mainWrites ha h; exact .keep rfl
  | env => obtain ⟨_, _, _, _, _, _, _, _, _, _, rfl⟩ := exec_envWrites ha h; exact .keep rfl

/-! The trace. -/

theorem pt_eq_of_ports (h : t.ports = s.ports) : t.pt = s.pt := congrArg Prod.fst h

theorem portStep_pt_grows (h : PortStep s t) : ∃ more, t.pt = s.pt ++ more := by
  cases h with
  | keep h => exact ⟨[], by simp [pt_eq_of_ports h]⟩
  | leds g y r h => exact ⟨_, pt_eq_of_ports h⟩
  | digit v c h =>
    exact ⟨[.digEn 0#4, .segN v, .digEn c], by simp [pt_eq_of_ports h]⟩

/-! The ports follow the trace (10_state.md R38, R39). -/

theorem portsFollowTrace_of_ports (h : t.ports = s.ports) (hs : PortsFollowTrace s) : PortsFollowTrace t := by
  simp only [State.ports, Prod.mk.injEq] at h
  obtain ⟨hpt, hdig, hseg, hg, hy, hr⟩ := h
  rwa [PortsFollowTrace, hpt, hdig, hseg, hg, hy, hr]

theorem portsFollowTrace_portWrite (e : PortEvent) (h : PortsFollowTrace s) : PortsFollowTrace (portWrite e s) := by
  obtain ⟨hdig, hseg, hleds⟩ := h
  cases e with
  | digEn v => exact ⟨by simp [lastDigEn], by simpa [lastSegN] using hseg, by simpa [lastLeds] using hleds⟩
  | segN v => exact ⟨by simpa [lastDigEn] using hdig, by simp [lastSegN], by simpa [lastLeds] using hleds⟩
  | leds g y r => exact ⟨by simpa [lastDigEn] using hdig, by simpa [lastSegN] using hseg, by simp [lastLeds]⟩

theorem portsFollowTrace_reset (s : State) : PortsFollowTrace (resetBody s) := ⟨rfl, rfl, rfl⟩

/-- Settles O11: every write of a port goes through `portWrite`, which puts it on the trace. -/
theorem stepKeepsPortsFollowingTrace : Obligations.StepKeepsPortsFollowingTrace := by
  refine fun s t hs h => step_keeps (fun _ _ h => h) (fun i s t hs h => ?_) hs h
  by_cases hreset : i = .reset
  · subst hreset
    obtain rfl := exec_reset_next.mp h
    exact portsFollowTrace_reset s
  · cases exec_portStep hreset h with
    | keep h => exact portsFollowTrace_of_ports h hs
    | leds g y r h => exact portsFollowTrace_of_ports h (portsFollowTrace_portWrite _ hs)
    | digit v c h =>
      exact portsFollowTrace_of_ports h
        (portsFollowTrace_portWrite _ (portsFollowTrace_portWrite _ (portsFollowTrace_portWrite _ hs)))

/-! No ghosting (40_display_mux.md R133). -/

theorem noGhosting_nil : NoGhosting [] := fun _ _ _ h => by simp at h

/-- The last write decides: a trace without ghosting stays so when what is added is no segment write, or is one while
every digit is blank. -/
theorem noGhosting_snoc {e : PortEvent} (h : NoGhosting pt) (he : ∀ v, e = .segN v → lastDigEn pt = 0#4) :
    NoGhosting (pt ++ [e]) := by
  intro before v after heq
  rcases List.eq_nil_or_concat after with rfl | ⟨mid, x, rfl⟩
  · obtain ⟨rfl, hlast⟩ := List.append_inj' heq rfl
    exact he v (List.singleton_inj.mp hlast)
  · rw [List.concat_eq_append, ← List.cons_append, ← List.append_assoc] at heq
    exact h before v mid (List.append_inj' heq rfl).1

theorem lastDigEn_snoc_digEn (pt : List PortEvent) (v : BitVec 4) : lastDigEn (pt ++ [.digEn v]) = v := by
  simp [lastDigEn]

/-- Settles O12: only TICK writes the segment bus, and it blanks the digits right before. -/
theorem stepKeepsNoGhosting : Obligations.StepKeepsNoGhosting := by
  refine fun s t hs h => step_keeps (P := fun s => NoGhosting s.pt) (fun _ _ h => h) (fun i s t hs h => ?_) hs h
  by_cases hreset : i = .reset
  · subst hreset
    obtain rfl := exec_reset_next.mp h
    exact noGhosting_nil
  · cases exec_portStep hreset h with
    | keep h => rwa [pt_eq_of_ports h]
    | leds g y r h =>
      rw [pt_eq_of_ports h]
      exact noGhosting_snoc hs nofun
    | digit v c h =>
      rw [pt_eq_of_ports h]
      have hblank : NoGhosting (s.pt ++ [.digEn 0#4]) := noGhosting_snoc hs nofun
      exact noGhosting_snoc (noGhosting_snoc hblank fun _ _ => lastDigEn_snoc_digEn s.pt 0#4) nofun

end Sys2Proof.Machine
end

section
/-! The transmit stream: what one operation of MAIN's does to the line in transmission, and with it that lines never
interleave (42_serial_tx.md R203, R204) and that TXS only grows (10_state.md R37). -/

namespace Sys2Proof.Machine

open Sys2Proof.Safety

variable {i : Instr} {s t : State}

/-- What an operation of MAIN's does to the line in transmission: load its next byte, start one from a position of the
loop, or move in the loop (42_serial_tx.md R200, R201). -/
inductive LineStep (s t : State) : Prop where
  | load (next : LoopPhase) (b : Byte) (phase : s.phase = .tx next) (byte : s.txLine[s.txIdx]? = some b)
      (h : t = txByteBody next b s)
  | start (p : LoopPhase) (e : EventLine) (phase : s.phase = .loop p) (he : e ≠ .boot)
      (phase' : t.phase = .tx e.continuation) (line : t.txLine = e.bytes) (idx : t.txIdx = 0) (txs : t.txs = s.txs)
  | pass (p q : LoopPhase) (phase : s.phase = .loop p) (phase' : t.phase = .loop q) (line : t.txLine = s.txLine)
      (idx : t.txIdx = s.txIdx) (txs : t.txs = s.txs)

theorem exec_main_lineStep (hi : i.agent = .main) (h : exec i s = .next t) : LineStep s t := by
  cases i with
  | txByte => obtain ⟨next, b, hp, -, -, hb, rfl⟩ := exec_txByte_next.mp h; exact .load next b hp hb rfl
  | scan k =>
    obtain ⟨k, -, -, hp, rfl⟩ := exec_scan_next.mp h
    rw [scanBody]
    split_ifs
    · exact .pass _ _ hp rfl rfl rfl rfl
    · exact .start _ (.button k) hp (by simp) rfl rfl rfl rfl
    · exact .pass _ _ hp rfl rfl rfl rfl
  | btnWaitEnd k => obtain ⟨k, -, -, hp, rfl⟩ := exec_btnWaitEnd_next.mp h; exact .pass _ _ hp rfl rfl rfl rfl
  | potStart => obtain ⟨-, hp, rfl⟩ := exec_potStart_next.mp h; exact .pass _ _ hp rfl rfl rfl rfl
  | potRead =>
    obtain ⟨-, hp, -, rfl⟩ := exec_potRead_next.mp h
    rw [potReadBody]
    split_ifs
    · exact .start _ (.pot s.adcData) hp (by simp) rfl rfl rfl rfl
    · exact .pass _ _ hp rfl rfl rfl rfl
  | confCheck =>
    obtain ⟨-, hp, rfl⟩ := exec_confCheck_next.mp h
    rw [confCheckBody]
    split_ifs
    · exact .start _ .confirm hp (by simp) rfl rfl rfl rfl
    · exact .pass _ _ hp rfl rfl rfl rfl
  | confWaitEnd => obtain ⟨-, hp, rfl⟩ := exec_confWaitEnd_next.mp h; exact .pass _ _ hp rfl rfl rfl rfl
  | _ => cases hi

/-- MAIN's position and the line in transmission, with TXS, are MAIN's alone (42_serial_tx.md R202). -/
theorem exec_keeps_line (hmain : i.agent ≠ .main) (hreset : i ≠ .reset) (h : exec i s = .next t) :
    t.phase = s.phase ∧ t.txLine = s.txLine ∧ t.txIdx = s.txIdx ∧ t.txs = s.txs := by
  cases ha : i.agent with
  | power => exact absurd (agent_power_iff.mp ha) hreset
  | main => exact absurd ha hmain
  | isr =>
    obtain ⟨htxs, -, hline, hidx, hphase⟩ := exec_isr_keeps_transmitter ha h
    exact ⟨hphase, hline, hidx, htxs⟩
  | env =>
    obtain ⟨_, _, _, _, _, _, _, _, _, _, rfl⟩ := exec_envWrites ha h
    exact ⟨rfl, rfl, rfl, rfl⟩

@[simp] theorem txByteBody_txs (n : LoopPhase) (b : Byte) (s : State) : (txByteBody n b s).txs = s.txs ++ [b] := by
  rw [txByteBody]
  split <;> rfl

/-! TXS (42_serial_tx.md R204). -/

theorem txStream_of_line_eq (hphase : t.phase = s.phase) (hline : t.txLine = s.txLine) (hidx : t.txIdx = s.txIdx)
    (htxs : t.txs = s.txs) (hs : TxStream s) : TxStream t := by
  rwa [TxStream, hphase, hline, hidx, htxs]

theorem txStream_of_pass {p q : LoopPhase} (hs : TxStream s) (hp : s.phase = .loop p) (hq : t.phase = .loop q)
    (htxs : t.txs = s.txs) : TxStream t := by
  obtain ⟨events, hboot, htx⟩ := hs
  rw [hp] at htx
  exact ⟨events, hboot, by rw [hq, htxs]; exact htx⟩

theorem event_bytes_ne_nil (e : EventLine) : 0 < e.bytes.length := by
  cases e <;> simp [EventLine.bytes, lineEnd]

/-- A line started in the loop is the last of the event lines, with nothing of it loaded. -/
theorem txStream_of_start {p : LoopPhase} {e : EventLine} (hs : TxStream s) (hp : s.phase = .loop p) (he : e ≠ .boot)
    (hphase : t.phase = .tx e.continuation) (hline : t.txLine = e.bytes) (hidx : t.txIdx = 0) (htxs : t.txs = s.txs) :
    TxStream t := by
  obtain ⟨events, hboot, htx⟩ := hs
  rw [hp] at htx
  refine ⟨events ++ [e], by simp [hboot, he.symm], ?_⟩
  rw [hphase]
  refine ⟨.boot :: events, e, rfl, hline, rfl, ?_, ?_⟩
  · rw [hidx, hline]; exact event_bytes_ne_nil e
  · rw [htxs, htx, hidx, List.take_zero, List.append_nil]

/-- The byte loaded is the next of the line in progress, which is whole after its last one. -/
theorem txStream_of_load {n : LoopPhase} {b : Byte} (hs : TxStream s) (hp : s.phase = .tx n)
    (hb : s.txLine[s.txIdx]? = some b) : TxStream (txByteBody n b s) := by
  obtain ⟨events, hboot, htx⟩ := hs
  rw [hp] at htx
  obtain ⟨done, current, hevents, hline, hnext, hidx, htxs⟩ := htx
  have hload : s.txs ++ [b] = done.flatMap EventLine.bytes ++ s.txLine.take (s.txIdx + 1) := by
    rw [htxs, List.take_add_one, hb, List.append_assoc, Option.toList_some]
  rcases Nat.lt_or_eq_of_le (Nat.succ_le_of_lt hidx) with hmore | hlast
  · rw [txByteBody_of_more hmore]
    refine ⟨events, hboot, ?_⟩
    simp only [hp]
    exact ⟨done, current, hevents, hline, hnext, hmore, hload⟩
  · rw [txByteBody_of_last hlast]
    refine ⟨events, hboot, ?_⟩
    rw [hload, ← Nat.succ_eq_add_one, hlast, List.take_length, hline, ← hevents, List.flatMap_append,
      List.flatMap_singleton]

theorem txStream_reset (s : State) : TxStream (resetBody s) :=
  ⟨[], by simp, [], .boot, rfl, rfl, rfl, event_bytes_ne_nil .boot, rfl⟩

/-- Settles O27: MAIN alone writes the line and TXS, and each of its three kinds of step keeps the form. -/
theorem stepKeepsTxStream : Obligations.StepKeepsTxStream := by
  refine fun s t hs h => step_keeps (fun _ _ h => h) (fun i s t hs h => ?_) hs h
  by_cases hmain : i.agent = .main
  · cases exec_main_lineStep hmain h with
    | load n b hp hb ht => exact ht ▸ txStream_of_load hs hp hb
    | start p e hp he hphase hline hidx htxs => exact txStream_of_start hs hp he hphase hline hidx htxs
    | pass p q hp hq _ _ htxs => exact txStream_of_pass hs hp hq htxs
  · by_cases hreset : i = .reset
    · subst hreset
      obtain rfl := exec_reset_next.mp h
      exact txStream_reset s
    · obtain ⟨hphase, hline, hidx, htxs⟩ := exec_keeps_line hmain hreset h
      exact txStream_of_line_eq hphase hline hidx htxs hs

/-- Settles O54: PT grows by what one operation writes to the ports, TXS by MAIN's byte. -/
theorem tracesOnlyGrow : Obligations.TracesOnlyGrow := by
  refine fun i s t h hreset => ⟨portStep_pt_grows (exec_portStep hreset h), ?_⟩
  by_cases hmain : i.agent = .main
  · cases exec_main_lineStep hmain h with
    | load n b _ _ ht => exact ⟨[b], by rw [ht, txByteBody_txs]⟩
    | start _ _ _ _ _ _ _ htxs => exact ⟨[], by simp [htxs]⟩
    | pass _ _ _ _ _ _ htxs => exact ⟨[], by simp [htxs]⟩
  · obtain ⟨-, -, -, htxs⟩ := exec_keeps_line hmain hreset h
    exact ⟨[], by simp [htxs]⟩

end Sys2Proof.Machine
end

section
/-! Decimal text (00_scope.md R12): dec by its last digit, fmt_dec by the last digit of its number. -/

namespace Sys2Proof.Machine

/-! dec. -/

theorem dec_snoc (s : List Byte) (b : Byte) : dec (s ++ [b]) = dec s * 10 + (b.toNat - 0x30) := by
  rw [dec, List.foldl_append]
  rfl

theorem dec_eq_sum (s : List Byte) :
    dec s = ∑ k ∈ Finset.range s.length, ((s.getD k 0#8).toNat - 0x30) * 10 ^ (s.length - 1 - k) := by
  induction s using List.reverseRecOn with
  | nil => rfl
  | append_singleton s b ih =>
    rw [dec_snoc, ih, List.length_append, List.length_singleton, Finset.sum_range_succ, Finset.sum_mul]
    congr 1
    · refine Finset.sum_congr rfl fun k hk => ?_
      have hk := Finset.mem_range.mp hk
      rw [List.getD_append _ _ _ _ hk, show s.length + 1 - 1 - k = s.length - 1 - k + 1 by omega, pow_succ, mul_assoc]
    · simp

/-- A digit string is below the power of ten of its length. -/
theorem dec_lt {s : List Byte} (h : ∀ b ∈ s, b.toNat ≤ 0x39) : dec s < 10 ^ s.length := by
  induction s using List.reverseRecOn with
  | nil => decide
  | append_singleton s b ih =>
    have hs := ih fun c hc => h c (by simp [hc])
    have hb := h b (by simp)
    rw [dec_snoc, List.length_append, List.length_singleton, pow_succ]
    omega

/-! fmt_dec. -/

theorem digitByte_toNat {d : Nat} (h : d < 10) : (digitByte d).toNat = 0x30 + d :=
  Nat.mod_eq_of_lt (show 0x30 + d < 2 ^ 8 by omega)

theorem fmtDecAux_acc (fuel n : Nat) (acc : List Byte) : fmtDecAux fuel n acc = fmtDecAux fuel n [] ++ acc := by
  induction fuel generalizing n acc with
  | zero => rfl
  | succ fuel ih =>
    rw [fmtDecAux, fmtDecAux]
    split
    · rfl
    · rw [ih, ih _ [_], List.append_assoc]
      rfl

/-- More divisions than the number has change nothing. -/
theorem fmtDecAux_fuel {f g n : Nat} (hf : n < f) (hg : n < g) (acc : List Byte) :
    fmtDecAux f n acc = fmtDecAux g n acc := by
  induction f generalizing g n acc with
  | zero => omega
  | succ f ih =>
    obtain ⟨g, rfl⟩ := Nat.exists_eq_add_one_of_ne_zero (Nat.ne_of_gt (Nat.zero_lt_of_lt hg))
    rw [fmtDecAux, fmtDecAux]
    split
    · rfl
    · exact ih (by omega) (by omega) _

theorem fmtDec_of_lt {n : Nat} (h : n < 10) : fmtDec n = [digitByte n] := by
  rw [fmtDec, fmtDecAux, if_pos h]

theorem fmtDec_of_ge {n : Nat} (h : 10 ≤ n) : fmtDec n = fmtDec (n / 10) ++ [digitByte (n % 10)] := by
  rw [fmtDec, fmtDecAux, if_neg (by omega), fmtDecAux_acc, fmtDec,
    fmtDecAux_fuel (g := n / 10 + 1) (by omega) (by omega)]

theorem dec_fmtDec (n : Nat) : dec (fmtDec n) = n := by
  induction n using Nat.strong_induction_on with
  | _ n ih =>
    rcases Nat.lt_or_ge n 10 with h | h
    · rw [fmtDec_of_lt h, ← List.nil_append [_], dec_snoc, digitByte_toNat h]
      simp [dec]
    · rw [fmtDec_of_ge h, dec_snoc, ih _ (by omega), digitByte_toNat (by omega)]
      omega

theorem fmtDec_ne_nil (n : Nat) : fmtDec n ≠ [] := by
  rcases Nat.lt_or_ge n 10 with h | h
  · simp [fmtDec_of_lt h]
  · simp [fmtDec_of_ge h]

theorem fmtDec_digits (n : Nat) : ∀ b ∈ fmtDec n, 0x30 ≤ b.toNat ∧ b.toNat ≤ 0x39 := by
  have hdigit : ∀ d, d < 10 → 0x30 ≤ (digitByte d).toNat ∧ (digitByte d).toNat ≤ 0x39 := fun d hd => by
    rw [digitByte_toNat hd]
    omega
  induction n using Nat.strong_induction_on with
  | _ n ih =>
    rcases Nat.lt_or_ge n 10 with h | h
    · simpa [fmtDec_of_lt h] using hdigit n h
    · intro b hb
      rw [fmtDec_of_ge h, List.mem_append, List.mem_singleton] at hb
      rcases hb with hb | rfl
      · exact ih _ (by omega) b hb
      · exact hdigit _ (by omega)

/-- fmt_dec writes no leading zero: k digits are enough for a number below the k-th power of ten. -/
theorem fmtDec_length_le {n k : Nat} (hk : 1 ≤ k) (h : n < 10 ^ k) : (fmtDec n).length ≤ k := by
  induction k, hk using Nat.le_induction generalizing n with
  | base => rw [fmtDec_of_lt (by simpa using h), List.length_singleton]
  | succ k hk ih =>
    rcases Nat.lt_or_ge n 10 with hn | hn
    · simp [fmtDec_of_lt hn]
    · rw [pow_succ] at h
      simpa [fmtDec_of_ge hn] using ih (n := n / 10) (by omega)

/-- Settles O24: the three parts, the last by the power of ten above a digit string's value. -/
theorem decimalTextIsExact : Obligations.DecimalTextIsExact := by
  refine ⟨dec_eq_sum, fun n => ⟨dec_fmtDec n, fmtDec_ne_nil n, fmtDec_digits n⟩, ?_⟩
  rintro n s hs hdigits rfl
  exact fmtDec_length_le (List.length_pos_iff.mpr hs) (dec_lt fun b hb => (hdigits b hb).2)

end Sys2Proof.Machine
end

section
/-! Event lines (30_encoding.md R97 to R99): their lengths, and that the stream parses in one way. -/

namespace Sys2Proof.Machine

open Sys2Proof.Safety

/-- The longest line is the boot line (30_encoding.md R98). -/
theorem event_bytes_length_le (e : EventLine) : e.bytes.length ≤ 15 := by
  cases e with
  | boot => decide
  | pot v =>
    have hv : (fmtDec v.toNat).length ≤ 4 := fmtDec_length_le (by decide) (v.isLt.trans (by decide))
    simp only [EventLine.bytes, potText, lineEnd, List.length_append, List.length_cons, List.length_nil]
    omega
  | button i => simp [EventLine.bytes, buttonText, lineEnd]
  | confirm => decide

/-- The text of an event line, without LINE_END. -/
def eventText : EventLine → List Byte
  | .boot => bootText
  | .pot v => potText v
  | .button i => buttonText i
  | .confirm => confirmText

theorem event_bytes_eq (e : EventLine) : e.bytes = eventText e ++ lineEnd := by
  cases e <;> rfl

/-- No text holds a CR, so LINE_END marks the end of its line. -/
theorem cr_notMem_eventText (e : EventLine) : 0x0D#8 ∉ eventText e := by
  cases e with
  | boot => decide
  | pot v =>
    intro h
    rcases List.mem_append.mp h with h | h
    · revert h; decide
    · exact absurd (fmtDec_digits _ _ h).1 (by decide)
  | button i => revert i; decide
  | confirm => decide

theorem buttonText_ne_confirmText : ∀ i : Fin 9, buttonText i ≠ confirmText := by decide

theorem buttonText_injective : ∀ i j : Fin 9, buttonText i = buttonText j → i = j := by decide

theorem potText_injective {v w : BitVec 10} (h : potText v = potText w) : v = w := by
  have hdec := congrArg dec (List.append_cancel_left h)
  rw [dec_fmtDec, dec_fmtDec] at hdec
  exact BitVec.eq_of_toNat_eq hdec

theorem eventText_injective {e f : EventLine} (h : eventText e = eventText f) : e = f := by
  cases e <;> cases f
  case boot.boot | confirm.confirm => rfl
  case pot.pot v w => rw [potText_injective h]
  case button.button i j => rw [buttonText_injective i j h]
  case button.confirm i => exact absurd h (buttonText_ne_confirmText i)
  case confirm.button i => exact absurd h.symm (buttonText_ne_confirmText i)
  all_goals exact absurd (congrArg List.head? h) (by simp [eventText, bootText, potText, buttonText, confirmText])

/-- The text of the line in front of a stream ends at the first CR. -/
theorem takeWhile_event (e : EventLine) (r : List Byte) :
    (e.bytes ++ r).takeWhile (· != 0x0D#8) = eventText e := by
  have hne : ∀ b ∈ eventText e, (b != 0x0D#8) = true := fun b hb =>
    bne_iff_ne.mpr fun h => cr_notMem_eventText e (h ▸ hb)
  rw [event_bytes_eq, List.append_assoc, List.takeWhile_append_of_pos hne]
  simp [lineEnd]

theorem event_bytes_cancel {e f : EventLine} {r q : List Byte} (h : e.bytes ++ r = f.bytes ++ q) : e = f ∧ r = q := by
  have htext := congrArg (List.takeWhile (· != 0x0D#8)) h
  rw [takeWhile_event, takeWhile_event] at htext
  obtain rfl := eventText_injective htext
  exact ⟨rfl, List.append_cancel_left h⟩

/-- Event lines after an event line are never the empty stream. -/
theorem flatMap_cons_ne_nil (e : EventLine) (es : List EventLine) : (e :: es).flatMap EventLine.bytes ≠ [] := by
  rw [List.flatMap_cons]
  exact List.append_ne_nil_of_left_ne_nil (List.length_pos_iff.mp (event_bytes_ne_nil e)) _

/-- Settles O28: the line in front is cut off at its LINE_END, and its text says which it is. -/
theorem eventLinesParseUniquely : Obligations.EventLinesParseUniquely := by
  intro xs
  induction xs with
  | nil =>
    intro ys h
    cases ys with
    | nil => rfl
    | cons y ys => exact absurd h.symm (flatMap_cons_ne_nil y ys)
  | cons x xs ih =>
    intro ys h
    cases ys with
    | nil => exact absurd h (flatMap_cons_ne_nil x xs)
    | cons y ys =>
      obtain ⟨rfl, hrest⟩ := event_bytes_cancel (by simpa using h)
      rw [ih ys hrest]

end Sys2Proof.Machine
end

section
/-! The line in progress (41_serial_rx.md R160 to R168): its bytes, as the receive services leave it. -/

namespace Sys2Proof.Machine

open Sys2Proof.Safety

variable {s : State} {b : Byte}

theorem line_length (s : State) : s.line.length = min s.rxLen.toNat 9 := by
  simp [State.line]

theorem line_of_rxLen_zero (h : s.rxLen = 0#4) : s.line = [] := by
  rw [State.line, h]
  rfl

theorem appendByte_of_lt (h : s.rxLen.toNat < 9) :
    appendByte b s = { s with rxBuf := s.rxBuf.set s.rxLen.toNat b h, rxLen := s.rxLen + 1#4 } := dif_pos h

theorem appendByte_of_ge (h : 9 ≤ s.rxLen.toNat) : appendByte b s = s := dif_neg (Nat.not_lt.mpr h)

/-- Below nine bytes the byte goes behind the line. -/
theorem line_appendByte_of_lt (h : s.rxLen.toNat < 9) : (appendByte b s).line = s.line ++ [b] := by
  have hlen : (s.rxLen + 1#4).toNat = s.rxLen.toNat + 1 := by bv_omega
  have hcell : (s.rxBuf.toList.set s.rxLen.toNat b)[s.rxLen.toNat]? = some b := by simp [h]
  rw [appendByte_of_lt h, State.line, State.line, hlen, Vector.toList_set, List.take_add_one, hcell, List.take_set,
    List.set_eq_of_length_le (by simp), Option.toList_some]

theorem rxLen_appendByte_le (b : Byte) (h : s.rxLen.toNat ≤ 9) : (appendByte b s).rxLen.toNat ≤ 9 := by
  rcases Nat.lt_or_eq_of_le h with hlt | heq
  · rw [appendByte_of_lt hlt]
    show (s.rxLen + 1#4).toNat ≤ 9
    bv_omega
  · rwa [appendByte_of_ge heq.ge]

theorem terminator_eq (s : State) : terminator s = if isScoreLine s.line then
    { s with rxLen := 0#4, disp := scoreDigits (dec (s.line.drop 4)) } else { s with rxLen := 0#4 } := rfl

end Sys2Proof.Machine
end

section
/-! The invariants of reachable states (10_state.md R51, with R38, R48 and 44_sequencer.md R261): each group of
operations keeps them, and with them nothing faults. -/

namespace Sys2Proof.Machine

open Sys2Proof.Safety

variable {i : Instr} {s t : State} {n : Nat}

/-! The digits of a score are decimal (40_display_mux.md R141). -/

theorem scoreDigits_le (n : Nat) (k : Fin 4) : (scoreDigits n)[k].toNat ≤ 9 := by
  match k with
  | 0 => exact (scoreDigits_thousands n).trans_le (by omega)
  | 1 => exact (scoreDigits_hundreds n).trans_le (by omega)
  | 2 => exact (scoreDigits_tens n).trans_le (by omega)
  | 3 => exact (scoreDigits_units n).trans_le (by omega)

/-- Settles O10: the digits are quotients and remainders of the clamped score by powers of ten. -/
theorem digitsReconstructScore : Obligations.DigitsReconstructScore := by
  refine fun n s => ⟨?_, scoreDigits_le n⟩
  rw [updateScore_disp, scoreDigits_thousands, scoreDigits_hundreds, scoreDigits_tens, scoreDigits_units]
  omega

/-! The receive services. -/

theorem inv_rxTake (hs : Inv s) : Inv (rxTake s) := { hs with }

theorem inv_controlByte (l : Led) (hs : Inv s) : Inv (controlByte l s) :=
  { hs with rxLen_le := Nat.zero_le 9, lines_decode := ⟨rfl, rfl, rfl⟩ }

theorem inv_updateScore (n : Nat) (hs : Inv s) : Inv (updateScore n s) := { hs with digit_le := scoreDigits_le n }

theorem inv_clearLine (hs : Inv s) : Inv (clearLine s) := { hs with rxLen_le := Nat.zero_le 9 }

theorem inv_clearByte (hs : Inv s) : Inv (clearByte s) :=
  { inv_updateScore 0 (inv_controlByte .off hs) with }

theorem inv_terminator (hs : Inv s) : Inv (terminator s) := by
  rw [terminator_eq]
  split
  · exact inv_updateScore _ (inv_clearLine hs)
  · exact inv_clearLine hs

theorem inv_appendByte (b : Byte) (hs : Inv s) : Inv (appendByte b s) := by
  have hlen := rxLen_appendByte_le b hs.rxLen_le
  rcases Nat.lt_or_ge s.rxLen.toNat 9 with h | h
  · rw [appendByte_of_lt h] at hlen ⊢
    exact { hs with rxLen_le := hlen }
  · rwa [appendByte_of_ge h]

theorem exec_receive_keeps_inv (hi : isReceive i = true) (hs : Inv s) (h : exec i s = .next t) : Inv t := by
  have htake := inv_rxTake hs
  cases i with
  | rxG => obtain ⟨-, -, rfl⟩ := exec_rxG_next.mp h; exact inv_controlByte _ htake
  | rxP => obtain ⟨-, -, rfl⟩ := exec_rxP_next.mp h; exact inv_controlByte _ htake
  | rxE => obtain ⟨-, -, rfl⟩ := exec_rxE_next.mp h; exact inv_controlByte _ htake
  | rxX => obtain ⟨-, -, rfl⟩ := exec_rxX_next.mp h; exact inv_clearByte htake
  | rxCr => obtain ⟨-, -, rfl⟩ := exec_rxCr_next.mp h; exact inv_terminator htake
  | rxLf => obtain ⟨-, -, rfl⟩ := exec_rxLf_next.mp h; exact inv_terminator htake
  | rxOrd b => obtain ⟨-, -, -, rfl⟩ := exec_rxOrd_next.mp h; exact inv_appendByte b htake
  | _ => cases hi

/-! TICK enables the position the cursor leaves (40_display_mux.md R130). -/

theorem inv_tickBody (hs : Inv s) : Inv (tickBody s) :=
  { hs with digEn_blank_or_last := .inr (congrArg onehot4 (show s.cursor = s.cursor + 1 + 3 by omega)) }

/-! MAIN (44_sequencer.md R261). -/

/-- The line fields of the invariant, the only ones that MAIN's operations touch. -/
theorem inv_of_lineFields (hs : Inv s) (hmain : MainWrites i s t) (hline : t.txLine.length ≤ 15)
    (hidx : t.txIdx ≤ t.txLine.length) (hleft : ∀ n, t.phase = .tx n → t.txIdx < t.txLine.length)
    (hnext : ∀ n, t.phase = .tx n → n = .scan 0 ∨ (∃ i, n = .btnWait i) ∨ n = .confCheck ∨ n = .confWait) : Inv t := by
  obtain ⟨_, _, _, _, _, _, rfl⟩ := hmain
  exact { hs with txLine_le := hline, txIdx_le := hidx, tx_byte_left := hleft, tx_next := hnext }

/-- No line leads to a position that the phase table does not name after one (44_sequencer.md R261, R264). -/
theorem event_continuation (e : EventLine) :
    e.continuation = .scan 0 ∨ (∃ i, e.continuation = .btnWait i) ∨ e.continuation = .confCheck ∨
      e.continuation = .confWait := by
  cases e <;> simp [EventLine.continuation]

theorem exec_main_keeps_inv (hi : i.agent = .main) (hs : Inv s) (h : exec i s = .next t) : Inv t := by
  have hframe := exec_mainWrites hi h
  cases exec_main_lineStep hi h with
  | load next b hp hb ht =>
    have hidx := hs.tx_byte_left next hp
    rcases Nat.lt_or_eq_of_le (Nat.succ_le_of_lt hidx) with hmore | hlast
    · rw [txByteBody_of_more hmore] at ht
      subst ht
      exact inv_of_lineFields hs hframe hs.txLine_le hidx (fun _ _ => hmore) hs.tx_next
    · rw [txByteBody_of_last hlast] at ht
      subst ht
      exact inv_of_lineFields hs hframe hs.txLine_le hidx nofun nofun
  | start p e _ _ hphase hline hidx _ =>
    refine inv_of_lineFields hs hframe (hline ▸ event_bytes_length_le e) (hidx ▸ Nat.zero_le _) ?_ ?_
    · exact fun _ _ => by rw [hidx, hline]; exact event_bytes_ne_nil e
    · intro n hn
      obtain rfl : e.continuation = n := Phase.tx.inj (hphase.symm.trans hn)
      exact event_continuation e
  | pass p q _ hq hline hidx _ =>
    refine inv_of_lineFields hs hframe (hline ▸ hs.txLine_le) (by rw [hline, hidx]; exact hs.txIdx_le) ?_ ?_
    · exact fun _ hn => absurd (hq.symm.trans hn) nofun
    · exact fun _ hn => absurd (hq.symm.trans hn) nofun

/-! The whole machine. -/

theorem inv_reset : Inv State.reset where
  digit_le := by decide
  rxLen_le := by decide
  lines_decode := by decide
  digEn_blank_or_last := .inl rfl
  txLine_le := by decide
  txIdx_le := by decide
  tx_byte_left := fun _ _ => by decide
  tx_next := fun _ h => .inl (Phase.tx.inj h).symm

theorem exec_keeps_inv (hs : Inv s) (h : exec i s = .next t) : Inv t := by
  cases ha : i.agent with
  | power =>
    obtain rfl := agent_power_iff.mp ha
    obtain rfl := exec_reset_next.mp h
    exact { inv_reset with }
  | isr =>
    rcases agent_isr_iff.mp ha with hr | rfl | rfl
    · exact exec_receive_keeps_inv hr hs h
    · obtain ⟨-, rfl⟩ := exec_confSvc_next.mp h; exact { hs with }
    · obtain ⟨-, rfl⟩ := exec_tick_next.mp h; exact inv_tickBody { hs with }
  | main => exact exec_main_keeps_inv ha hs h
  | env => obtain ⟨_, _, _, _, _, _, _, _, _, _, rfl⟩ := exec_envWrites ha h; exact { hs with }

theorem inv_setSched (r : List OpWord) (hs : Inv s) : Inv { s with sched := r } := { hs with }

/-- Settles O56: no clause is about `sched`, and every operation keeps every clause. -/
theorem stepKeepsInv : Obligations.StepKeepsInv :=
  fun _ _ hs h => step_keeps (fun _ r hs => inv_setSched r hs) (fun _ _ _ hs h => exec_keeps_inv hs h) hs h

/-- Settles O55: the traces are empty, and the boot line is in transmission with nothing of it loaded. -/
theorem resetMeetsInvariants : Obligations.ResetMeetsInvariants :=
  ⟨inv_reset, portsFollowTrace_reset State.reset, noGhosting_nil, txStream_reset State.reset⟩

/-- Settles O57: one indicator lights one line, and three places on modulo 4 is one place back. -/
theorem invCoversTheSpecsList : Obligations.InvCoversTheSpecsList := by
  intro s hs
  obtain ⟨hg, hy, hr⟩ := hs.lines_decode
  have hdig : s.digEn = 0#4 ∨ ∃ c : Fin 4, s.digEn = 1#4 <<< c.val ∧ c.val = (s.cursor.val + 3) % 4 :=
    hs.digEn_blank_or_last.imp_right fun h => ⟨_, h, Fin.val_add s.cursor 3⟩
  refine ⟨hs.digit_le, hs.rxLen_le, ?_, ?_, ?_, hdig, Nat.le_of_lt_succ s.lastPot.isLt⟩
  all_goals
    simp only [hg, hy, hr]
    cases s.led <;> decide

/-! Faults (60_exceptions.md R280). -/

theorem exec_ne_fault (hs : Inv s) (i : Instr) (e : Fault) : exec i s ≠ .fault e := by
  intro h
  obtain ⟨-, ⟨next, hp⟩, hnone⟩ := exec_fault h
  exact absurd (hs.tx_byte_left next hp) (Nat.not_lt.mpr (List.getElem?_eq_none_iff.mp hnone))

end Sys2Proof.Machine
end

section
/-! DISPATCH (60_exceptions.md R285) as the run of its due services, and what it leaves. -/

namespace Sys2Proof.Machine

open Sys2Proof.Safety

variable {i : Instr} {s t : State}

theorem anyPending_iff : s.anyPending = true ↔ s.rxPending = true ∨ s.confPending = true ∨ s.tickPending = true := by
  simp [State.anyPending, or_assoc]

theorem anyPending_false_iff :
    s.anyPending = false ↔ s.rxPending = false ∧ s.confPending = false ∧ s.tickPending = false := by
  simp [State.anyPending, and_assoc]

theorem dueServices_ne_nil_iff : s.dueServices ≠ [] ↔ s.anyPending = true := by
  rw [anyPending_iff, State.dueServices]
  cases s.rxPending <;> cases s.confPending <;> cases s.tickPending <;> simp

/-- A due service's word is one of the ISR's, and decodes to it. -/
theorem dueServices_decode (h : i ∈ s.dueServices) : decode (encode i) = .ok i ∧ i.agent = .isr := by
  have hdue : i = rxInstr s.rxData ∨ i = .confSvc ∨ i = .tick := by
    simp only [State.dueServices, List.mem_append, List.mem_ite_nil_right, List.mem_singleton] at h
    tauto
  rcases hdue with rfl | rfl | rfl
  · exact ⟨decode_encode (rxInstr_encodesTo _).1, agent_isr_iff.mpr (.inl (rxInstr_isReceive _))⟩
  · exact ⟨by decide, rfl⟩
  · exact ⟨by decide, rfl⟩

theorem andThen_assoc (r : Result) (f g : State → Result) :
    andThen (andThen r f) g = andThen r fun u => andThen (f u) g := by
  cases r <;> rfl

theorem execAll_append (is js : List Instr) (s : State) :
    execAll (is ++ js) s = andThen (execAll is s) (execAll js) := by
  induction is generalizing s with
  | nil => rfl
  | cons i is ih => rw [List.cons_append, execAll, execAll, funext ih, andThen_assoc]

theorem execAll_of_due (due : Bool) (i : Instr) :
    execAll (if due then [i] else []) = fun s => if due then exec i s else .next s := by
  cases due with
  | true => exact funext fun s => andThen_next_right (exec i s)
  | false => rfl

/-- DISPATCH is its due services, one after another. -/
theorem dispatch_eq_execAll (h : s.anyPending = true) : dispatch s = execAll s.dueServices s := by
  rw [State.dueServices, execAll_append, execAll_append, execAll_of_due, execAll_of_due, execAll_of_due, andThen_assoc]
  beta_reduce
  rw [← receiveService_eq]
  exact if_pos h

theorem dispatch_of_none (h : s.anyPending = false) : dispatch s = .refused .dispatchNotEnabled := by
  obtain ⟨hr, hc, ht⟩ := anyPending_false_iff.mp h
  simp [dispatch, hr, hc, ht]

/-! Its three parts. -/

theorem receivePart (s : State) :
    ∃ u, (if s.rxPending then receiveService s else .next s) = .next u ∧ ReceiveWrites s u := by
  cases hr : s.rxPending with
  | true =>
    obtain ⟨u, hu⟩ := receiveService_completes hr
    exact ⟨u, hu, exec_receiveWrites (rxInstr_isReceive s.rxData) (receiveService_eq ▸ hu)⟩
  | false => exact ⟨s, rfl, s.disp, s.led, s.rxBuf, s.rxLen, s.ledG, s.ledY, s.ledR, s.pt, by rw [← hr]⟩

/-- The confirm service, where it is due. -/
def confPart (s : State) : State := { s with confPending := false, confirmFlag := s.confirmFlag || s.confPending }

/-- The tick service, where it is due. -/
def tickPart (s : State) : State := if s.tickPending then tickBody { s with tickPending := false } else s

theorem tickPart_of_pending (h : s.tickPending = true) : tickPart s = tickBody { s with tickPending := false } :=
  if_pos h

theorem tickPart_of_none (h : s.tickPending = false) : tickPart s = s := if_neg (Bool.eq_false_iff.mp h)

theorem confPart_eq (s : State) : (if s.confPending then execConfSvc s else .next s) = .next (confPart s) := by
  cases hc : s.confPending with
  | true => exact exec_confSvc_next.mpr ⟨hc, by simp [confPart, hc]⟩
  | false =>
    have hsame : confPart s = s := by rw [confPart, hc, Bool.or_false, ← hc]
    rw [hsame]
    rfl

theorem tickPart_eq (s : State) : (if s.tickPending then execTick s else .next s) = .next (tickPart s) := by
  rw [tickPart]
  split
  · rename_i ht; exact exec_tick_next.mpr ⟨ht, rfl⟩
  · rfl

/-- A DISPATCH completes: the receive service's writes, then the confirm service, then TICK. -/
theorem dispatch_runs (h : s.anyPending = true) :
    ∃ u, ReceiveWrites s u ∧ dispatch s = .next (tickPart (confPart u)) := by
  obtain ⟨u, hu, hw⟩ := receivePart s
  have hconf := confPart_eq u
  have htick := tickPart_eq (confPart u)
  refine ⟨u, hw, dispatch_next.mpr ⟨h, u, confPart u, hu, ?_, ?_⟩⟩ <;>
    obtain ⟨_, _, _, _, _, _, _, _, rfl⟩ := hw
  · exact hconf
  · exact htick

/-- What a DISPATCH leaves, with the tick flag and the cursor as it found them up to TICK. -/
theorem eq_of_dispatch (h : dispatch s = .next t) :
    ∃ u, u.tickPending = s.tickPending ∧ u.cursor = s.cursor ∧ t = tickPart (confPart u) := by
  obtain ⟨hp, -⟩ := dispatch_next.mp h
  obtain ⟨u, hw, hd⟩ := dispatch_runs hp
  refine ⟨u, ?_, ?_, Host.Outcome.next.inj (h.symm.trans hd)⟩ <;>
    obtain ⟨_, _, _, _, _, _, _, _, rfl⟩ := hw <;> rfl

/-- Settles O49: field by field from the three parts. -/
theorem dispatchServicesEverySource : Obligations.DispatchServicesEverySource := by
  intro s hp
  obtain ⟨_, ⟨_, _, _, _, _, _, _, pt, rfl⟩, hd⟩ := dispatch_runs (anyPending_iff.mpr hp)
  refine ⟨_, hd, ?_⟩
  rw [tickPart]
  split
  · refine ⟨rfl, rfl, rfl, fun hc => by simp [confPart, tickBody, hc], fun _ => ⟨pt, ?_, rfl⟩, rfl⟩
    simp [tickBody, confPart]
  · rename_i ht
    replace ht : s.tickPending = false := Bool.eq_false_iff.mpr ht
    refine ⟨rfl, rfl, ht, fun hc => by simp [confPart, hc], fun h => absurd (ht.symm.trans h) nofun, ?_⟩
    simp [confPart, ht]

end Sys2Proof.Machine
end

section
/-! MAIN's operation for its phase (44_sequencer.md R261), and one step: the scheduled word's, or the block's own. -/

namespace Sys2Proof.Machine

open Sys2Proof.Safety

variable {i : Instr} {s t : State}

/-! MAIN's operation. -/

theorem eq_ofNat_of_toNat_eq {k : BitVec 4} {j : Fin 9} (h : k.toNat = j.val) : k = BitVec.ofNat 4 j.val := by
  rw [← h, BitVec.ofNat_toNat, BitVec.setWidth_eq]

/-- What MAIN runs is the operation that its phase and guard name, with nothing pending. -/
theorem mainOp_of_exec (hi : i.agent = .main) (h : exec i s = .next t) : s.anyPending = false ∧ s.mainOp = some i := by
  cases i with
  | txByte => obtain ⟨_, _, hp, hn, he, -, -⟩ := exec_txByte_next.mp h; exact ⟨hn, by simp [State.mainOp, hp, he]⟩
  | scan k =>
    obtain ⟨j, hj, hn, hp, -⟩ := exec_scan_next.mp h
    exact ⟨hn, by rw [State.mainOp, hp, eq_ofNat_of_toNat_eq hj]⟩
  | btnWaitEnd k =>
    obtain ⟨j, hj, hn, hp, -⟩ := exec_btnWaitEnd_next.mp h
    exact ⟨hn, by rw [State.mainOp, hp, eq_ofNat_of_toNat_eq hj]⟩
  | potStart => obtain ⟨hn, hp, -⟩ := exec_potStart_next.mp h; exact ⟨hn, by rw [State.mainOp, hp]⟩
  | potRead => obtain ⟨hn, hp, hb, -⟩ := exec_potRead_next.mp h; exact ⟨hn, by simp [State.mainOp, hp, hb]⟩
  | confCheck => obtain ⟨hn, hp, -⟩ := exec_confCheck_next.mp h; exact ⟨hn, by rw [State.mainOp, hp]⟩
  | confWaitEnd => obtain ⟨hn, hp, -⟩ := exec_confWaitEnd_next.mp h; exact ⟨hn, by rw [State.mainOp, hp]⟩
  | _ => cases hi

theorem ofNat_toNat_fin (j : Fin 9) : (BitVec.ofNat 4 j.val).toNat = j.val := Nat.mod_eq_of_lt (by omega)

/-- MAIN's operation completes with nothing pending, if TX has a byte left to load. -/
theorem exec_mainOp_completes (hleft : ∀ n, s.phase = .tx n → s.txIdx < s.txLine.length) (hn : s.anyPending = false)
    (h : s.mainOp = some i) : ∃ t, exec i s = .next t := by
  rw [State.mainOp] at h
  split at h
  case h_1 next hp =>
    split at h <;> cases h
    rename_i he
    exact ⟨_, exec_txByte_next.mpr ⟨next, _, hp, hn, he, List.getElem?_eq_getElem (hleft next hp), rfl⟩⟩
  case h_2 j hp => cases h; exact ⟨_, exec_scan_next.mpr ⟨j, ofNat_toNat_fin j, hn, hp, rfl⟩⟩
  case h_3 j hp => cases h; exact ⟨_, exec_btnWaitEnd_next.mpr ⟨j, ofNat_toNat_fin j, hn, hp, rfl⟩⟩
  case h_4 hp => cases h; exact ⟨_, exec_potStart_next.mpr ⟨hn, hp, rfl⟩⟩
  case h_5 hp =>
    split at h <;> cases h
    rename_i hb
    exact ⟨_, exec_potRead_next.mpr ⟨hn, hp, Bool.eq_false_iff.mpr hb, rfl⟩⟩
  case h_6 hp => cases h; exact ⟨_, exec_confCheck_next.mpr ⟨hn, hp, rfl⟩⟩
  case h_7 hp => cases h; exact ⟨_, exec_confWaitEnd_next.mpr ⟨hn, hp, rfl⟩⟩

theorem mainOp_eq_none_iff : s.mainOp = none ↔ MainWaits s := by
  rw [State.mainOp, MainWaits]
  split <;> simp [*]

/-- Settles O42: phase and guard name one operation. -/
theorem atMostOneMainOperation : Obligations.AtMostOneMainOperation := by
  intro s t u i j hi hj ht hu
  obtain ⟨-, hti⟩ := mainOp_of_exec hi ht
  obtain ⟨-, huj⟩ := mainOp_of_exec hj hu
  exact Option.some.inj (hti.symm.trans huj)

/-- Settles O44: MAIN's operation is named exactly when MAIN does not wait, and then completes. -/
theorem mainRunsOrWaits : Obligations.MainRunsOrWaits := by
  intro s hs hr hc ht
  have hn : s.anyPending = false := anyPending_false_iff.mpr ⟨hr, hc, ht⟩
  rw [← mainOp_eq_none_iff, ← Ne, Option.ne_none_iff_exists']
  constructor
  · rintro ⟨i, t, hi, h⟩
    exact ⟨i, (mainOp_of_exec hi h).2⟩
  · rintro ⟨i, hi⟩
    obtain ⟨t, h⟩ := exec_mainOp_completes hs.tx_byte_left hn hi
    exact ⟨i, t, (mainOp_decodes hi).2, h⟩

theorem mainStep_of_pending {p : LoopPhase} {g : Bool} {u : State} (hp : s.anyPending = true) :
    mainStep i p g u s = .refused (.notEnabled i) := guarded_of_disabled (by simp [hp])

theorem buttonIndex_of_le {k : BitVec 4} (h : k.toNat ≤ 8) : ∃ j, buttonIndex k = some j :=
  ⟨⟨k.toNat, by omega⟩, buttonIndex_some.mpr rfl⟩

/-- A pending source shuts MAIN out (44_sequencer.md R262). -/
theorem exec_main_of_pending (hi : i.agent = .main) (hwf : i.wellFormed = true) (hp : s.anyPending = true) :
    exec i s = .refused (.notEnabled i) := by
  cases i with
  | txByte =>
    rw [exec, execTxByte]
    split <;> simp [hp]
  | scan k =>
    obtain ⟨j, hj⟩ := buttonIndex_of_le (of_decide_eq_true hwf)
    rw [exec, execScan, hj]
    exact mainStep_of_pending hp
  | btnWaitEnd k =>
    obtain ⟨j, hj⟩ := buttonIndex_of_le (of_decide_eq_true hwf)
    rw [exec, execBtnWaitEnd, hj]
    exact mainStep_of_pending hp
  | potStart | potRead | confCheck | confWaitEnd => exact mainStep_of_pending hp
  | _ => cases hi

/-- Settles O43: MAIN's next states are explicit, and no other operation's frame has the phase. -/
theorem mainFollowsPhaseTable : Obligations.MainFollowsPhaseTable := by
  refine fun s t i h => ⟨fun hi => ?_, fun hi hreset => (exec_keeps_line hi hreset h).1⟩
  cases i with
  | txByte =>
    obtain ⟨n, b, hp, -, -, -, rfl⟩ := exec_txByte_next.mp h
    rw [txByteBody, hp]
    split
    · exact .txDone n
    · exact (show _ = Phase.tx n from hp) ▸ .txMore n
  | scan k =>
    obtain ⟨j, hj, -, hp, rfl⟩ := exec_scan_next.mp h
    rw [hp, eq_ofNat_of_toNat_eq hj, scanBody]
    split_ifs
    · exact .scanPass j
    · exact .scanReport j
    · exact .scanPass j
  | btnWaitEnd k =>
    obtain ⟨j, hj, -, hp, rfl⟩ := exec_btnWaitEnd_next.mp h
    rw [hp, eq_ofNat_of_toNat_eq hj]
    exact .btnWaitEnd j
  | potStart => obtain ⟨-, hp, rfl⟩ := exec_potStart_next.mp h; exact hp ▸ .potStart
  | potRead =>
    obtain ⟨-, hp, -, rfl⟩ := exec_potRead_next.mp h
    rw [hp, potReadBody]
    split
    · exact .potReport
    · exact .potPass
  | confCheck =>
    obtain ⟨-, hp, rfl⟩ := exec_confCheck_next.mp h
    rw [hp, confCheckBody]
    split
    · exact .confReport
    · exact .confPass
  | confWaitEnd => obtain ⟨-, hp, rfl⟩ := exec_confWaitEnd_next.mp h; exact hp ▸ .confWaitEnd
  | _ => cases hi

/-! One step. -/

theorem step_of_nil (h : s.sched = []) : step s = ownStep s := by rw [step, h]

theorem step_of_cons {w : OpWord} {rest : List OpWord} (hs : s.sched = w :: rest) (hw : decode w = .ok i) :
    step s = if i.agent = .isr then takeDispatch s else exec i { s with sched := rest } := by
  rw [step, hs]
  simp only [takeWord, hw]

/-- Settles O4: a scheduled word that is no service is decoded and executed. -/
theorem stepRunsScheduledWord : Obligations.StepRunsScheduledWord := by
  intro s w rest i hs hw hi
  rw [step_of_cons hs hw, if_neg hi]

theorem takeDispatch_of_due {rest : List OpWord} (h : s.sched = s.dueWords ++ rest) :
    takeDispatch s = dispatch { s with sched := rest } := by
  rw [takeDispatch, dropFront_some.mpr h]

theorem takeDispatch_of_not_due (h : ∀ rest, s.sched ≠ s.dueWords ++ rest) :
    takeDispatch s = .refused .dispatchNotEnabled := by
  have hnone : dropFront s.dueWords s.sched = none :=
    Option.eq_none_iff_forall_ne_some.mpr fun rest hr => h rest (dropFront_some.mp hr)
  rw [takeDispatch, hnone]

theorem takeDispatch_of_none (h : s.anyPending = false) : takeDispatch s = .refused .dispatchNotEnabled := by
  have hdue : s.dueWords = [] := List.map_eq_nil_iff.mpr (by_contra fun hne => by
    rw [← Ne, dueServices_ne_nil_iff, h] at hne; cases hne)
  rw [takeDispatch_of_due (by rw [hdue]; rfl)]
  exact dispatch_of_none h

/-- A scheduled DISPATCH is one step. -/
theorem step_of_dueWords {rest : List OpWord} (hp : s.anyPending = true) (h : s.sched = s.dueWords ++ rest) :
    step s = dispatch { s with sched := rest } := by
  obtain ⟨i, is, hdue⟩ := List.exists_cons_of_ne_nil (dueServices_ne_nil_iff.mpr hp)
  obtain ⟨hw, hi⟩ := dueServices_decode (i := i) (s := s) (by simp [hdue])
  have hs : s.sched = encode i :: (is.map encode ++ rest) := by rw [h, State.dueWords, hdue]; rfl
  rw [step_of_cons hs hw, if_pos hi, takeDispatch_of_due h]

/-- Settles O5: the list of due services is read off in front of `sched`, and DISPATCH runs it. -/
theorem stepRunsScheduledDispatch : Obligations.StepRunsScheduledDispatch := by
  constructor
  · rintro s rest due rfl hne hs
    have hp : s.anyPending = true := dueServices_ne_nil_iff.mp hne
    rw [step_of_dueWords hp hs]
    exact dispatch_eq_execAll (s := { s with sched := rest }) hp
  · rintro s w rest i due rfl hs hw hi hnot
    rw [step_of_cons hs hw, if_pos hi]
    rcases hnot with hnil | hnot
    · exact takeDispatch_of_none (Bool.eq_false_iff.mpr fun hp => dueServices_ne_nil_iff.mpr hp hnil)
    · exact takeDispatch_of_not_due hnot

theorem ownStep_of_pending (h : s.anyPending = true) : ownStep s = dispatch s := by rw [ownStep, if_pos h]

theorem ownStep_of_mainOp (h : s.anyPending = false) (hi : s.mainOp = some i) : ownStep s = exec i s := by
  simp only [ownStep, h, hi, Bool.false_eq_true, if_false]

theorem ownStep_of_waits (h : s.anyPending = false) (hi : s.mainOp = none) : ownStep s = .next s := by
  simp only [ownStep, h, hi, Bool.false_eq_true, if_false]

/-- Settles O6: the three branches of the block's own step. -/
theorem stepWithNothingScheduled : Obligations.StepWithNothingScheduled := by
  intro s hs
  rw [step_of_nil hs]
  refine ⟨?_, fun i t hi h => ?_, fun hr hc ht hw => ?_⟩
  · rintro due rfl hne
    have hp : s.anyPending = true := dueServices_ne_nil_iff.mp hne
    rw [ownStep_of_pending hp]
    exact dispatch_eq_execAll hp
  · obtain ⟨hp, hop⟩ := mainOp_of_exec hi h
    rw [ownStep_of_mainOp hp hop, h]
  · exact ownStep_of_waits (anyPending_false_iff.mpr ⟨hr, hc, ht⟩) (mainOp_eq_none_iff.mpr hw)

/-- Settles O41: MAIN's guard has the pending flags in it, and the own step is then a DISPATCH. -/
theorem mainRunsOnlyWithNothingPending : Obligations.MainRunsOnlyWithNothingPending := by
  intro s hp
  replace hp := anyPending_iff.mpr hp
  refine ⟨fun i hi hwf => exec_main_of_pending hi hwf hp, fun hs => ?_⟩
  obtain ⟨u, -, hd⟩ := dispatch_runs hp
  exact ⟨_, by rw [step_of_nil hs, ownStep_of_pending hp, hd], hd⟩

/-! Faults (60_exceptions.md R280). -/

theorem dispatch_ne_fault (s : State) (e : Fault) : dispatch s ≠ .fault e := by
  cases hp : s.anyPending with
  | true => obtain ⟨u, -, hd⟩ := dispatch_runs hp; simp [hd]
  | false => simp [dispatch_of_none hp]

theorem step_ne_fault (hs : Inv s) (e : Fault) : step s ≠ .fault e := by
  rw [step]
  split
  · rw [ownStep]
    split_ifs
    · exact dispatch_ne_fault s e
    · split
      · exact exec_ne_fault hs _ e
      · nofun
  · rw [takeWord]
    split
    · nofun
    · split_ifs
      · rw [takeDispatch]
        split
        · exact dispatch_ne_fault _ e
        · nofun
      · exact exec_ne_fault (inv_setSched _ hs) _ e

/-- Settles O58: TX_BYTE's fault is shut out by the invariant, and a DISPATCH completes or is refused. -/
theorem noStepFaults : Obligations.NoStepFaults := fun _ hs => ⟨step_ne_fault hs, exec_ne_fault hs⟩

end Sys2Proof.Machine
end

section
/-! Values no rule reads (70_reset_and_hazards.md R335): two states that differ only in them step alike. -/

namespace Sys2Proof.Machine

open Sys2Proof.Safety

variable {i : Instr} {s t : State} {R : State → State → Prop}

/-! Related outcomes. -/

theorem resultRel_guarded {b c : Bool} {u v : State} (hb : b = c) (h : b = true → R u v) :
    ResultRel R (guarded i b u) (guarded i c v) := by
  subst hb
  cases b with
  | true => exact h rfl
  | false => exact rfl

theorem resultRel_andThen {a b : Result} {f g : State → Result} {Q : State → State → Prop} (hab : ResultRel Q a b)
    (hfg : ∀ u v, a = .next u → Q u v → ResultRel R (f u) (g v)) : ResultRel R (andThen a f) (andThen b g) := by
  cases a with
  | next u =>
    cases b with
    | next v => exact hfg u v rfl hab
    | fault _ | refused _ => exact False.elim hab
  | fault _ =>
    cases b with
    | fault _ => exact hab
    | next _ | refused _ => exact False.elim hab
  | refused _ =>
    cases b with
    | refused _ => exact hab
    | next _ | fault _ => exact False.elim hab

/-! Agreeing states (70_reset_and_hazards.md R335). -/

/-- The agreement in explicit form: t is s with other cells, another received byte and another reading. -/
theorem agree_iff : AgreeWhereReadable s t ↔ ∃ buf data reading,
    t = { s with rxBuf := buf, rxData := data, adcData := reading } ∧
    s.line = State.line { s with rxBuf := buf, rxData := data, adcData := reading } ∧
    (s.rxPending = true → s.rxData = data) ∧
    (s.phase = .loop .potWait → s.adcBusy = false → s.adcData = reading) := by
  constructor
  · rintro ⟨ht, hline, hrx, hadc⟩
    exact ⟨_, _, _, ht, by rwa [← ht], hrx, hadc⟩
  · rintro ⟨buf, data, reading, rfl, hline, hrx, hadc⟩
    exact ⟨rfl, hline, hrx, hadc⟩

theorem agree_setSched (r : List OpWord) (h : AgreeWhereReadable s t) :
    AgreeWhereReadable { s with sched := r } { t with sched := r } := by
  obtain ⟨buf, data, reading, rfl, hline, hrx, hadc⟩ := agree_iff.mp h
  exact ⟨rfl, hline, hrx, hadc⟩

/-! The receive services on agreeing states: they read the line and the pending byte alone. -/

theorem agree_rxTake (h : AgreeWhereReadable s t) : AgreeWhereReadable (rxTake s) (rxTake t) := by
  obtain ⟨buf, data, reading, rfl, hline, -, hadc⟩ := agree_iff.mp h
  exact ⟨rfl, hline, nofun, hadc⟩

theorem agree_controlByte (l : Led) (h : AgreeWhereReadable s t) :
    AgreeWhereReadable (controlByte l s) (controlByte l t) := by
  obtain ⟨buf, data, reading, rfl, -, hrx, hadc⟩ := agree_iff.mp h
  exact ⟨rfl, rfl, hrx, hadc⟩

theorem agree_clearByte (h : AgreeWhereReadable s t) : AgreeWhereReadable (clearByte s) (clearByte t) := by
  obtain ⟨buf, data, reading, rfl, -, hrx, hadc⟩ := agree_iff.mp h
  exact ⟨rfl, rfl, hrx, hadc⟩

theorem agree_terminator (h : AgreeWhereReadable s t) : AgreeWhereReadable (terminator s) (terminator t) := by
  obtain ⟨buf, data, reading, rfl, hline, hrx, hadc⟩ := agree_iff.mp h
  rw [terminator, terminator, ← hline, lineEval, lineEval]
  split <;> exact ⟨rfl, rfl, hrx, hadc⟩

theorem agree_appendByte (b : Byte) (h : AgreeWhereReadable s t) :
    AgreeWhereReadable (appendByte b s) (appendByte b t) := by
  have hlen : t.rxLen = s.rxLen := by obtain ⟨_, _, _, rfl, -⟩ := agree_iff.mp h; rfl
  rcases Nat.lt_or_ge s.rxLen.toNat 9 with hs | hs
  · have ht : t.rxLen.toNat < 9 := hlen ▸ hs
    have hline : (appendByte b s).line = (appendByte b t).line := by
      obtain ⟨-, hline, -⟩ := h
      rw [line_appendByte_of_lt hs, line_appendByte_of_lt ht, hline]
    rw [appendByte_of_lt hs, appendByte_of_lt ht] at hline ⊢
    obtain ⟨buf, data, reading, rfl, -, hrx, hadc⟩ := agree_iff.mp h
    exact ⟨rfl, hline, hrx, hadc⟩
  · rwa [appendByte_of_ge hs, appendByte_of_ge (hlen ▸ hs)]

theorem rxService_agree {b : Byte} {f : State → State}
    (hf : ∀ {u v}, AgreeWhereReadable u v → AgreeWhereReadable (f u) (f v)) (h : AgreeWhereReadable s t) :
    ResultRel AgreeWhereReadable (rxService i b f s) (rxService i b f t) := by
  refine resultRel_guarded ?_ fun _ => hf (agree_rxTake h)
  obtain ⟨buf, data, reading, rfl, -, hrx, -⟩ := agree_iff.mp h
  cases hp : s.rxPending with
  | true => simp only [hrx hp]
  | false => rfl

theorem exec_receive_agree (hi : isReceive i = true) (h : AgreeWhereReadable s t) :
    ResultRel AgreeWhereReadable (exec i s) (exec i t) := by
  cases i with
  | rxG | rxP | rxE => exact rxService_agree (agree_controlByte _) h
  | rxX => exact rxService_agree agree_clearByte h
  | rxCr | rxLf => exact rxService_agree agree_terminator h
  | rxOrd b =>
    rw [exec, exec, execRxOrd, execRxOrd]
    split
    · exact rxService_agree (agree_appendByte b) h
    · exact rfl
  | _ => cases hi

/-! MAIN on agreeing states: POT_READ runs only on a reading that agrees, and after the other operations no reading
can be taken, POT_START's own conversion included. -/

theorem mainStep_agree {p : LoopPhase} {g : Bool} {u v : State} (h : AgreeWhereReadable s t)
    (huv : s.phase = .loop p → g = true → AgreeWhereReadable u v) :
    ResultRel AgreeWhereReadable (mainStep i p g u s) (mainStep i p g v t) := by
  obtain ⟨buf, data, reading, rfl, -⟩ := agree_iff.mp h
  refine resultRel_guarded rfl fun hg => ?_
  obtain ⟨⟨-, hp⟩, hg⟩ : (_ ∧ s.phase = .loop p) ∧ g = true := by
    simpa only [Bool.and_eq_true, decide_eq_true_eq] using hg
  exact huv hp hg

theorem afterButton_ne_potWait (k : Fin 9) : Phase.loop (afterButton k) ≠ .loop .potWait := by
  revert k; decide

theorem agree_scanBody (k : Fin 9) (h : AgreeWhereReadable s t) : AgreeWhereReadable (scanBody k s) (scanBody k t) := by
  obtain ⟨buf, data, reading, rfl, hline, hrx, -⟩ := agree_iff.mp h
  simp only [scanBody]
  split_ifs
  · exact ⟨rfl, hline, hrx, fun hp => absurd hp (afterButton_ne_potWait k)⟩
  · exact ⟨rfl, hline, hrx, nofun⟩
  · exact ⟨rfl, hline, hrx, fun hp => absurd hp (afterButton_ne_potWait k)⟩

theorem agree_goto {p : LoopPhase} (hp : p ≠ .potWait) (h : AgreeWhereReadable s t) :
    AgreeWhereReadable (goto p s) (goto p t) := by
  obtain ⟨buf, data, reading, rfl, hline, hrx, -⟩ := agree_iff.mp h
  exact ⟨rfl, hline, hrx, fun hq => absurd (Phase.loop.inj hq) hp⟩

theorem txByteBody_of_not_last {n : LoopPhase} {b : Byte} (h : s.txIdx + 1 ≠ s.txLine.length) :
    txByteBody n b s = { s with txs := s.txs ++ [b], txEmpty := false, txIdx := s.txIdx + 1 } := if_neg h

theorem agree_txByteBody {n : LoopPhase} (b : Byte) (hn : n ≠ .potWait) (hp : s.phase = .tx n)
    (h : AgreeWhereReadable s t) : AgreeWhereReadable (txByteBody n b s) (txByteBody n b t) := by
  have hlast : t.txIdx + 1 = t.txLine.length ↔ s.txIdx + 1 = s.txLine.length := by
    obtain ⟨_, _, _, rfl, -⟩ := agree_iff.mp h
    exact Iff.rfl
  by_cases hs : s.txIdx + 1 = s.txLine.length
  · rw [txByteBody_of_last hs, txByteBody_of_last (hlast.mpr hs)]
    obtain ⟨buf, data, reading, rfl, hline, hrx, -⟩ := agree_iff.mp h
    exact ⟨rfl, hline, hrx, fun hq => absurd (Phase.loop.inj hq) hn⟩
  · rw [txByteBody_of_not_last hs, txByteBody_of_not_last (hlast.not.mpr hs)]
    obtain ⟨buf, data, reading, rfl, hline, hrx, -⟩ := agree_iff.mp h
    exact ⟨rfl, hline, hrx, fun hq => absurd (hp.symm.trans hq) nofun⟩

theorem exec_txByte_of_not_enabled {n : LoopPhase} (hp : s.phase = .tx n) (h : (!s.anyPending && s.txEmpty) = false) :
    exec .txByte s = .refused (.notEnabled .txByte) := by
  simp only [exec, execTxByte, hp, h, Bool.false_eq_true, if_false]

theorem exec_txByte_agree (hs : Inv s) (h : AgreeWhereReadable s t) :
    ResultRel AgreeWhereReadable (exec .txByte s) (exec .txByte t) := by
  obtain ⟨hphase, hguard, hbyte⟩ : t.phase = s.phase ∧ (!t.anyPending && t.txEmpty) = (!s.anyPending && s.txEmpty) ∧
      t.txLine[t.txIdx]? = s.txLine[s.txIdx]? := by
    obtain ⟨_, _, _, rfl, -⟩ := agree_iff.mp h
    exact ⟨rfl, rfl, rfl⟩
  cases hp : s.phase with
  | loop p =>
    rw [exec_txByte_of_loop hp, exec_txByte_of_loop (hphase.trans hp)]
    exact rfl
  | tx n =>
    have hpt := hphase.trans hp
    cases hg : !s.anyPending && s.txEmpty with
    | false =>
      rw [exec_txByte_of_not_enabled hp hg, exec_txByte_of_not_enabled hpt (hguard.trans hg)]
      exact rfl
    | true =>
      have hb := List.getElem?_eq_getElem (hs.tx_byte_left n hp)
      have hn : n ≠ .potWait := by
        rintro rfl
        simpa using hs.tx_next _ hp
      have hgt := hguard.trans hg
      simp only [Bool.and_eq_true, Bool.not_eq_true'] at hg hgt
      rw [exec_txByte_next.mpr ⟨n, _, hp, hg.1, hg.2, hb, rfl⟩,
        exec_txByte_next.mpr ⟨n, _, hpt, hgt.1, hgt.2, hbyte.trans hb, rfl⟩]
      exact agree_txByteBody _ hn hp h

theorem exec_main_agree (hs : Inv s) (hi : i.agent = .main) (h : AgreeWhereReadable s t) :
    ResultRel AgreeWhereReadable (exec i s) (exec i t) := by
  cases i with
  | txByte => exact exec_txByte_agree hs h
  | scan k =>
    rw [exec, exec, execScan, execScan]
    split
    · exact mainStep_agree h fun _ _ => agree_scanBody _ h
    · exact rfl
  | btnWaitEnd k =>
    rw [exec, exec, execBtnWaitEnd, execBtnWaitEnd]
    split
    · exact mainStep_agree h fun _ _ => agree_goto (fun hp => afterButton_ne_potWait _ (congrArg Phase.loop hp)) h
    · exact rfl
  | potStart =>
    refine mainStep_agree h fun _ _ => ?_
    obtain ⟨buf, data, reading, rfl, hline, hrx, -⟩ := agree_iff.mp h
    exact ⟨rfl, hline, hrx, nofun⟩
  | potRead =>
    have hbusy : t.adcBusy = s.adcBusy := by obtain ⟨_, _, _, rfl, -⟩ := agree_iff.mp h; rfl
    rw [exec, exec, execPotRead, execPotRead, hbusy]
    refine mainStep_agree h fun hp hb => ?_
    obtain ⟨buf, data, reading, rfl, hline, hrx, hadc⟩ := agree_iff.mp h
    obtain rfl := hadc hp (by simpa using hb)
    simp only [potReadBody]
    split
    · exact ⟨rfl, hline, hrx, nofun⟩
    · exact ⟨rfl, hline, hrx, nofun⟩
  | confCheck =>
    refine mainStep_agree h fun _ _ => ?_
    obtain ⟨buf, data, reading, rfl, hline, hrx, hadc⟩ := agree_iff.mp h
    simp only [confCheckBody]
    split
    · exact ⟨rfl, hline, hrx, nofun⟩
    · exact ⟨rfl, hline, hrx, nofun⟩
  | confWaitEnd =>
    refine mainStep_agree h fun _ _ => agree_goto (by simp) ?_
    obtain ⟨buf, data, reading, rfl, hline, hrx, hadc⟩ := agree_iff.mp h
    exact ⟨rfl, hline, hrx, hadc⟩
  | _ => cases hi

/-! Every operation, and every step. -/

theorem exec_env_agree (hi : i.agent = .env) (h : AgreeWhereReadable s t) :
    ResultRel AgreeWhereReadable (exec i s) (exec i t) := by
  obtain ⟨buf, data, reading, rfl, hline, hrx, hadc⟩ := agree_iff.mp h
  cases i with
  | envRx b => exact resultRel_guarded rfl fun _ => ⟨rfl, hline, fun _ => rfl, hadc⟩
  | envConf l => exact ⟨rfl, hline, hrx, hadc⟩
  | envTimer => exact ⟨rfl, hline, hrx, hadc⟩
  | envAdcDone v => exact resultRel_guarded rfl fun _ => ⟨rfl, hline, hrx, fun _ _ => rfl⟩
  | envTxDone => exact resultRel_guarded rfl fun _ => ⟨rfl, hline, hrx, hadc⟩
  | envBtn v => exact ⟨rfl, hline, hrx, hadc⟩
  | _ => cases hi

theorem exec_agree (hs : Inv s) (i : Instr) (h : AgreeWhereReadable s t) :
    ResultRel AgreeWhereReadable (exec i s) (exec i t) := by
  cases ha : i.agent with
  | main => exact exec_main_agree hs ha h
  | env => exact exec_env_agree ha h
  | isr =>
    rcases agent_isr_iff.mp ha with hr | rfl | rfl
    · exact exec_receive_agree hr h
    · obtain ⟨buf, data, reading, rfl, hline, hrx, hadc⟩ := agree_iff.mp h
      exact resultRel_guarded rfl fun _ => ⟨rfl, hline, hrx, hadc⟩
    · obtain ⟨buf, data, reading, rfl, hline, hrx, hadc⟩ := agree_iff.mp h
      exact resultRel_guarded rfl fun _ => ⟨rfl, hline, hrx, hadc⟩
  | power =>
    obtain rfl := agent_power_iff.mp ha
    obtain ⟨buf, data, reading, rfl, -⟩ := agree_iff.mp h
    exact ⟨rfl, rfl, fun _ => rfl, fun _ _ => rfl⟩

theorem execAll_agree (is : List Instr) (hs : Inv s) (h : AgreeWhereReadable s t) :
    ResultRel AgreeWhereReadable (execAll is s) (execAll is t) := by
  induction is generalizing s t with
  | nil => exact h
  | cons i is ih => exact resultRel_andThen (exec_agree hs i h) fun u v hu huv => ih (exec_keeps_inv hs hu) huv

theorem agree_dueServices (h : AgreeWhereReadable s t) :
    t.anyPending = s.anyPending ∧ t.dueServices = s.dueServices := by
  obtain ⟨buf, data, reading, rfl, -, hrx, -⟩ := agree_iff.mp h
  refine ⟨rfl, ?_⟩
  simp only [State.dueServices]
  cases hp : s.rxPending with
  | true => rw [hrx hp]
  | false => rfl

theorem dispatch_agree (hs : Inv s) (h : AgreeWhereReadable s t) :
    ResultRel AgreeWhereReadable (dispatch s) (dispatch t) := by
  obtain ⟨hpend, hdue⟩ := agree_dueServices h
  cases hp : s.anyPending with
  | true =>
    rw [dispatch_eq_execAll hp, dispatch_eq_execAll (hpend.trans hp), hdue]
    exact execAll_agree _ hs h
  | false =>
    rw [dispatch_of_none hp, dispatch_of_none (hpend.trans hp)]
    exact rfl

theorem ownStep_agree (hs : Inv s) (h : AgreeWhereReadable s t) :
    ResultRel AgreeWhereReadable (ownStep s) (ownStep t) := by
  obtain ⟨hpend, -⟩ := agree_dueServices h
  have hop : t.mainOp = s.mainOp := by obtain ⟨_, _, _, rfl, -⟩ := agree_iff.mp h; rfl
  rw [ownStep, ownStep, hpend, hop]
  split
  · exact dispatch_agree hs h
  · split
    · exact exec_agree hs _ h
    · exact h

theorem takeWord_agree (w : OpWord) (rest : List OpWord) (hs : Inv s) (h : AgreeWhereReadable s t) :
    ResultRel AgreeWhereReadable (takeWord w rest s) (takeWord w rest t) := by
  obtain ⟨-, hdue⟩ := agree_dueServices h
  have hsched : t.sched = s.sched := by obtain ⟨_, _, _, rfl, -⟩ := agree_iff.mp h; rfl
  rw [takeWord, takeWord]
  split
  · exact rfl
  · split
    · rw [takeDispatch, takeDispatch, State.dueWords, State.dueWords, hdue, hsched]
      split
      · exact dispatch_agree (inv_setSched _ hs) (agree_setSched _ h)
      · exact rfl
    · exact exec_agree (inv_setSched _ hs) _ (agree_setSched _ h)

/-- Settles O59: operation by operation; Inv shuts out a line that goes on at POT_WAIT. -/
theorem unreadableValuesNeverMatter : Obligations.UnreadableValuesNeverMatter := by
  intro s t hs h
  have hsched : t.sched = s.sched := by obtain ⟨_, _, _, rfl, -⟩ := agree_iff.mp h; rfl
  rw [step, step, hsched]
  split
  · exact ownStep_agree hs h
  · exact takeWord_agree _ _ hs h

end Sys2Proof.Machine
end

section
/-! MAIN observes the ISR only through confirm_flag (60_exceptions.md R292). -/

namespace Sys2Proof.Machine

open Sys2Proof.Safety

variable {i : Instr} {s t s' : State}

/-! The effects of MAIN's operations on states that agree for MAIN. -/

theorem agreeForMain_goto (p : LoopPhase) (h : AgreeForMain s t) : AgreeForMain (goto p s) (goto p t) :=
  ⟨rfl, h.2⟩

theorem agreeForMain_emit (text : List Byte) (n : LoopPhase) (h : AgreeForMain s t) :
    AgreeForMain (emit text n s) (emit text n t) := by
  obtain ⟨-, -, -, hrest⟩ := h
  exact ⟨rfl, rfl, rfl, hrest⟩

theorem agreeForMain_setLatch (k : Fin 9) (b : Bool) (h : AgreeForMain s t) :
    AgreeForMain { s with btnLatch := s.btnLatch.set k b } { t with btnLatch := t.btnLatch.set k b } := by
  obtain ⟨hphase, hline, hidx, hlatch, hrest⟩ := h
  exact ⟨hphase, hline, hidx, congrArg (·.set k b) hlatch, hrest⟩

theorem agreeForMain_scanBody (k : Fin 9) (h : AgreeForMain s t) : AgreeForMain (scanBody k s) (scanBody k t) := by
  obtain ⟨-, -, -, hlatch, -, -, -, -, -, hbtn, -⟩ := id h
  cases hb : s.btnN.getLsbD k.val with
  | true =>
    rw [scanBody_of_not_pressed hb, scanBody_of_not_pressed (hbtn ▸ hb)]
    exact agreeForMain_goto _ (agreeForMain_setLatch k false h)
  | false =>
    cases hl : s.btnLatch[k] with
    | true =>
      rw [scanBody_of_held hb hl, scanBody_of_held (hbtn ▸ hb) (hlatch ▸ hl)]
      exact agreeForMain_goto _ h
    | false =>
      rw [scanBody_of_newly_pressed hb hl, scanBody_of_newly_pressed (hbtn ▸ hb) (hlatch ▸ hl)]
      exact agreeForMain_emit _ _ (agreeForMain_setLatch k true h)

theorem agreeForMain_potReadBody (h : AgreeForMain s t) : AgreeForMain (potReadBody s) (potReadBody t) := by
  obtain ⟨hphase, hline, hidx, hlatch, hpot, hflag, hempty, hbusy, hadc, hbtn, hpend⟩ := id h
  have htext : potText t.adcData = potText s.adcData := by rw [hadc]
  have hreport : exceedsThreshold t.adcData t.lastPot = exceedsThreshold s.adcData s.lastPot := by rw [hadc, hpot]
  rw [potReadBody, potReadBody, hreport, htext]
  split
  · exact agreeForMain_emit _ _ ⟨hphase, hline, hidx, hlatch, hadc, hflag, hempty, hbusy, hadc, hbtn, hpend⟩
  · exact agreeForMain_goto _ h

theorem agreeForMain_confCheckBody (h : AgreeForMain s t) : AgreeForMain (confCheckBody s) (confCheckBody t) := by
  obtain ⟨-, -, -, -, -, hflag, -⟩ := id h
  rw [confCheckBody, confCheckBody, ← hflag]
  split
  · exact agreeForMain_emit _ _ h
  · exact agreeForMain_goto _ h

theorem agreeForMain_txByteBody (n : LoopPhase) (b : Byte) (h : AgreeForMain s t) :
    AgreeForMain (txByteBody n b s) (txByteBody n b t) := by
  obtain ⟨hphase, hline, hidx, hlatch, hpot, hflag, -, hbusy, hadc, hbtn, hpend⟩ := id h
  by_cases hlast : s.txIdx + 1 = s.txLine.length
  · rw [txByteBody_of_last hlast, txByteBody_of_last (hidx ▸ hline ▸ hlast)]
    exact ⟨rfl, hline, congrArg (· + 1) hidx, hlatch, hpot, hflag, rfl, hbusy, hadc, hbtn, hpend⟩
  · rw [txByteBody_of_not_last hlast, txByteBody_of_not_last (hidx ▸ hline ▸ hlast)]
    exact ⟨hphase, hline, congrArg (· + 1) hidx, hlatch, hpot, hflag, rfl, hbusy, hadc, hbtn, hpend⟩

/-! The operations. Only TX_BYTE writes TXS (42_serial_tx.md R202). -/

theorem scanBody_txs (k : Fin 9) (s : State) : (scanBody k s).txs = s.txs := by
  rw [scanBody]
  split_ifs <;> rfl

theorem potReadBody_txs (s : State) : (potReadBody s).txs = s.txs := by
  rw [potReadBody]
  split <;> rfl

theorem confCheckBody_txs (s : State) : (confCheckBody s).txs = s.txs := by
  rw [confCheckBody]
  split <;> rfl

/-- Settles O60: an operation's guard and effect read only what the states agree on, and the byte loaded is the
line's. -/
theorem mainSeesIsrOnlyThroughConfirmFlag : Obligations.MainSeesIsrOnlyThroughConfirmFlag := by
  intro i s t s' hi h hrun
  have silent : ∀ {u v}, exec i t = .next v → AgreeForMain u v → u.txs = s.txs → v.txs = t.txs →
      ∃ t' loaded, exec i t = .next t' ∧ AgreeForMain u t' ∧ u.txs = s.txs ++ loaded ∧ t'.txs = t.txs ++ loaded :=
    fun {u v} hv hagree hu hv' => ⟨v, [], hv, hagree, by simp [hu], by simp [hv']⟩
  obtain ⟨hphase, hline, hidx, -, -, -, hempty, hbusy, -, -, hpend⟩ := id h
  cases i with
  | txByte =>
    obtain ⟨n, b, hp, hn, he, hb, rfl⟩ := exec_txByte_next.mp hrun
    exact ⟨_, [b], exec_txByte_next.mpr ⟨n, b, hphase ▸ hp, hpend ▸ hn, hempty ▸ he, hline ▸ hidx ▸ hb, rfl⟩,
      agreeForMain_txByteBody n b h, txByteBody_txs n b s, txByteBody_txs n b t⟩
  | scan k =>
    obtain ⟨j, hj, hn, hp, rfl⟩ := exec_scan_next.mp hrun
    exact silent (exec_scan_next.mpr ⟨j, hj, hpend ▸ hn, hphase ▸ hp, rfl⟩) (agreeForMain_scanBody j h)
      (scanBody_txs j s) (scanBody_txs j t)
  | btnWaitEnd k =>
    obtain ⟨j, hj, hn, hp, rfl⟩ := exec_btnWaitEnd_next.mp hrun
    exact silent (exec_btnWaitEnd_next.mpr ⟨j, hj, hpend ▸ hn, hphase ▸ hp, rfl⟩) (agreeForMain_goto _ h) rfl rfl
  | potStart =>
    obtain ⟨hn, hp, rfl⟩ := exec_potStart_next.mp hrun
    obtain ⟨_, _, _, hlatch, hpot, hflag, _, -, hrest⟩ := id h
    have hagree : AgreeForMain (adcStart s) (adcStart t) :=
      ⟨hphase, hline, hidx, hlatch, hpot, hflag, hempty, rfl, hrest⟩
    exact silent (exec_potStart_next.mpr ⟨hpend ▸ hn, hphase ▸ hp, rfl⟩) (agreeForMain_goto _ hagree) rfl rfl
  | potRead =>
    obtain ⟨hn, hp, hb, rfl⟩ := exec_potRead_next.mp hrun
    exact silent (exec_potRead_next.mpr ⟨hpend ▸ hn, hphase ▸ hp, hbusy ▸ hb, rfl⟩) (agreeForMain_potReadBody h)
      (potReadBody_txs s) (potReadBody_txs t)
  | confCheck =>
    obtain ⟨hn, hp, rfl⟩ := exec_confCheck_next.mp hrun
    exact silent (exec_confCheck_next.mpr ⟨hpend ▸ hn, hphase ▸ hp, rfl⟩) (agreeForMain_confCheckBody h)
      (confCheckBody_txs s) (confCheckBody_txs t)
  | confWaitEnd =>
    obtain ⟨hn, hp, rfl⟩ := exec_confWaitEnd_next.mp hrun
    obtain ⟨_, _, _, hlatch, hpot, -, hrest⟩ := id h
    have hagree : AgreeForMain { s with confirmFlag := false } { t with confirmFlag := false } :=
      ⟨hphase, hline, hidx, hlatch, hpot, rfl, hrest⟩
    exact silent (exec_confWaitEnd_next.mpr ⟨hpend ▸ hn, hphase ▸ hp, rfl⟩) (agreeForMain_goto _ hagree) rfl rfl
  | _ => cases hi

end Sys2Proof.Machine
end

section
/-! The services, one at a time: TICK (40_display_mux.md R130), the receive operations (41_serial_rx.md R160 to R168)
and CONF_SVC (43_input_sampler.md R226). -/

namespace Sys2Proof.Machine

open Sys2Proof.Safety

variable {i : Instr} {s : State} {b : Byte}

/-- A scheduled service that is not due has no step (60_exceptions.md R285; log entry 5). -/
theorem step_of_service_not_due {rest : List OpWord} (hi : i.agent = .isr) (hwf : i.wellFormed = true)
    (hs : s.sched = encode i :: rest) (h : i ∉ s.dueServices) : step s = .refused .dispatchNotEnabled := by
  rw [step_of_cons hs (decode_encode hwf), if_pos hi]
  cases hp : s.anyPending with
  | false => exact takeDispatch_of_none hp
  | true =>
    obtain ⟨j, js, hdue⟩ := List.exists_cons_of_ne_nil (dueServices_ne_nil_iff.mpr hp)
    have hj : j ∈ s.dueServices := by simp [hdue]
    refine takeDispatch_of_not_due fun r hr => h ?_
    rw [hs, State.dueWords, hdue] at hr
    have hword : decode (encode i) = decode (encode j) := congrArg decode (List.cons.inj hr).1
    rw [decode_encode hwf, (dueServices_decode hj).1] at hword
    exact Except.ok.inj hword ▸ hj

theorem mem_dueServices_confSvc : .confSvc ∈ s.dueServices ↔ s.confPending = true := by
  have hrx := rxInstr_isReceive s.rxData
  have hne : .confSvc ≠ rxInstr s.rxData := fun h => by rw [← h] at hrx; cases hrx
  simp [State.dueServices, hne]

theorem mem_dueServices_tick : .tick ∈ s.dueServices ↔ s.tickPending = true := by
  have hrx := rxInstr_isReceive s.rxData
  have hne : .tick ≠ rxInstr s.rxData := fun h => by rw [← h] at hrx; cases hrx
  simp [State.dueServices, hne]

/-! TICK. -/

theorem tickBody_eq (s : State) : tickBody s = { s with
    digEn := onehot4 s.cursor, segN := segOf s.disp[s.cursor], cursor := s.cursor + 1
    pt := s.pt ++ [.digEn 0#4, .segN (segOf s.disp[s.cursor]), .digEn (onehot4 s.cursor)] } := by
  simp [tickBody, portWrite]

/-- Settles O7: TICK's three port writes in a row, and its guard. -/
theorem tickDrivesOneDigit : Obligations.TickDrivesOneDigit := by
  refine ⟨rfl, fun s => ⟨fun h => ?_, guarded_of_disabled, fun rest hs h => ?_⟩⟩
  · exact exec_tick_next.mpr ⟨h, (tickBody_eq { s with tickPending := false }).symm⟩
  · exact step_of_service_not_due rfl rfl hs (by simp [mem_dueServices_tick, h])

theorem segLookup_eq {p : Vector (BitVec 7) 10} {v : BitVec 4} (d : Fin 10) (h : min v.toNat 9 = d.val) :
    segLookup p v = 1#1 ++ p[d] := by
  simp only [segLookup, h, Fin.getElem_fin]

/-- Settles O8: the index is clamped, and the decimal point's bit stands in front of the seven of the table. -/
theorem segLookupClampsAndKeepsPointOff : Obligations.SegLookupClampsAndKeepsPointOff := by
  refine ⟨fun v hv => ?_, fun v => ?_, fun d => ?_⟩
  · exact (segLookup_eq 9 (Nat.min_eq_right hv)).trans (segLookup_eq 9 rfl).symm
  · rw [segOf, segLookup, BitVec.getLsbD_append]
    rfl
  · have hd : min (BitVec.ofNat 4 d.val).toNat 9 = d.val := by simp; omega
    rw [segOf, segLookup_eq d hd, BitVec.setWidth_append, dif_pos (by decide), BitVec.setWidth_eq]

/-! The receive operations. -/

theorem rxService_of_not_pending {f : State → State} (h : s.rxPending = false ∨ s.rxData ≠ b) :
    rxService i b f s = .refused (.notEnabled i) :=
  guarded_of_disabled (by rcases h with h | h <;> simp [h])

/-- Settles O15: RX_G, RX_P and RX_E are `controlByte` for one indicator each. -/
theorem controlBytesSetOneIndicator : Obligations.ControlBytesSetOneIndicator :=
  ⟨rfl, rfl, rfl, fun _ =>
    ⟨fun hp hb => exec_rxG_next.mpr ⟨hp, hb, rfl⟩, fun hp hb => exec_rxP_next.mpr ⟨hp, hb, rfl⟩,
      fun hp hb => exec_rxE_next.mpr ⟨hp, hb, rfl⟩, rxService_of_not_pending, rxService_of_not_pending,
      rxService_of_not_pending⟩⟩

/-- Settles O16: RX_X's next state is explicit. -/
theorem clearByteZeroesScore : Obligations.ClearByteZeroesScore :=
  ⟨rfl, fun _ => ⟨fun hp hb => exec_rxX_next.mpr ⟨hp, hb, rfl⟩, rxService_of_not_pending⟩⟩

theorem exec_rxOrd_of_not_enabled (h : isOrdinary b = false ∨ s.rxPending = false ∨ s.rxData ≠ b) :
    exec (.rxOrd b) s = .refused (.notEnabled (.rxOrd b)) := by
  rw [exec, execRxOrd]
  split
  · rename_i hb
    exact rxService_of_not_pending (h.resolve_left (by simp [hb]))
  · rfl

/-- Settles O17: `appendByte` below nine bytes and at nine, behind RX_ORD's two guards. -/
theorem ordinaryByteIsKeptOrDropped : Obligations.OrdinaryByteIsKeptOrDropped := by
  intro s b
  refine ⟨fun _ => opWord_setWidth (by decide) 0x01#8 b, fun hb hp hd => ⟨fun hlen => ?_, fun hlen => ?_⟩, fun h => ?_⟩
  · refine exec_rxOrd_next.mpr ⟨isOrdinary_iff.mpr hb, hp, hd, ?_⟩
    have hnext : BitVec.ofNat 4 (s.rxLen.toNat + 1) = s.rxLen + 1#4 := by bv_omega
    rw [appendByte_of_lt (s := rxTake s) hlen, hnext]
    rfl
  · refine exec_rxOrd_next.mpr ⟨isOrdinary_iff.mpr hb, hp, hd, ?_⟩
    rw [appendByte_of_ge (s := rxTake s) hlen]
    rfl
  · refine exec_rxOrd_of_not_enabled (h.imp_left fun hb => ?_)
    rw [← Bool.not_eq_true, isOrdinary_iff, not_not]
    exact hb

theorem isScoreLine_iff (line : List Byte) : isScoreLine line = true ↔
    5 ≤ line.length ∧ line.take 4 = [0x53#8, 0x43#8, 0x52#8, 0x3A#8] ∧
      ∀ c ∈ line.drop 4, 0x30 ≤ c.toNat ∧ c.toNat ≤ 0x39 := by
  simp [isScoreLine, isDigit, scorePrefix, and_assoc]

/-- Settles O18: both terminators are `terminator`, whose test is `isScoreLine`. -/
theorem terminatorEvaluatesLine : Obligations.TerminatorEvaluatesLine := by
  refine ⟨rfl, rfl, ?_⟩
  rintro s i b line hi rfl
  have hrun : s.rxPending = true → s.rxData = b → exec i s = .next (terminator (rxTake s)) := fun hp hd => by
    rcases hi with ⟨rfl, rfl⟩ | ⟨rfl, rfl⟩
    · exact exec_rxCr_next.mpr ⟨hp, hd, rfl⟩
    · exact exec_rxLf_next.mpr ⟨hp, hd, rfl⟩
  refine ⟨fun hp hd => ?_, fun h => ?_⟩
  · rw [hrun hp hd, terminator_eq, ← isScoreLine_iff]
    exact ⟨fun hvalid => congrArg _ (if_pos hvalid), fun hvalid => congrArg _ (if_neg hvalid)⟩
  · rcases hi with ⟨rfl, rfl⟩ | ⟨rfl, rfl⟩
    · exact rxService_of_not_pending h
    · exact rxService_of_not_pending h

/-! The confirm service. -/

/-- Settles O35: CONF_SVC's next state is explicit and reads no input. -/
theorem confSvcSetsFlag : Obligations.ConfSvcSetsFlag := by
  refine ⟨rfl, fun s => ⟨fun h => exec_confSvc_next.mpr ⟨h, rfl⟩, guarded_of_disabled, fun rest hs h => ?_⟩⟩
  exact step_of_service_not_due rfl rfl hs (by simp [mem_dueServices_confSvc, h])

end Sys2Proof.Machine
end

section
/-! MAIN's operations, one at a time: TX_BYTE's fault, BTN_WAIT_END (43_input_sampler.md R221), CONF_CHECK and
CONF_WAIT_END (R230, R231), POT_START and POT_READ (R240 to R242). -/

namespace Sys2Proof.Machine

open Sys2Proof.Safety

variable {i : Instr} {s : State} {p : LoopPhase}

theorem exec_txByte_of_no_byte {n : LoopPhase} (hp : s.phase = .tx n) (h : (!s.anyPending && s.txEmpty) = true)
    (hb : s.txLine[s.txIdx]? = none) : exec .txByte s = .fault .txIndexOutOfRange := by
  simp only [exec, execTxByte, hp, h, hb, if_true]

/-- Settles O26: an enabled TX_BYTE finds no byte beyond the line's end. -/
theorem txIndexOutsideLineFaults : Obligations.TxIndexOutsideLineFaults := by
  intro s n hp he hr hc ht hidx
  have hn : s.anyPending = false := anyPending_false_iff.mpr ⟨hr, hc, ht⟩
  exact exec_txByte_of_no_byte hp (by simp [hn, he]) (List.getElem?_eq_none_iff.mpr hidx)

/-! The guards of the loop's operations. -/

theorem mainStep_of_enabled {g : Bool} {u : State} (hp : s.phase = .loop p) (hr : s.rxPending = false)
    (hc : s.confPending = false) (ht : s.tickPending = false) (hg : g = true) : mainStep i p g u s = .next u :=
  mainStep_next.mpr ⟨anyPending_false_iff.mpr ⟨hr, hc, ht⟩, hp, hg, rfl⟩

theorem exec_btnWaitEnd_ofNat (k : Fin 9) (s : State) : exec (.btnWaitEnd (BitVec.ofNat 4 k.val)) s =
    mainStep (.btnWaitEnd (BitVec.ofNat 4 k.val)) (.btnWait k) true (goto (afterButton k) s) s := by
  rw [exec, execBtnWaitEnd, buttonIndex_ofNat]

/-- Settles O34: BTN_WAIT_END's guard and its one write. -/
theorem btnWaitEndResumesScan : Obligations.BtnWaitEndResumesScan := by
  refine fun s k => ⟨by revert k; decide, fun hp hr hc ht => ?_, fun hp => ?_⟩
  · rw [exec_btnWaitEnd_ofNat, mainStep_of_enabled hp hr hc ht rfl]
    rfl
  · rw [exec_btnWaitEnd_ofNat, mainStep_of_elsewhere hp]

/-- Settles O37: CONF_WAIT_END's guard and its two writes. -/
theorem confWaitEndClearsFlag : Obligations.ConfWaitEndClearsFlag :=
  ⟨rfl, fun _ => ⟨fun hp hr hc ht => mainStep_of_enabled hp hr hc ht rfl, mainStep_of_elsewhere⟩⟩

/-! Where MAIN comes from (44_sequencer.md R261): the rows of the phase table that lead to a position. -/

theorem afterButton_cases : ∀ k : Fin 9, (∃ j, afterButton k = .scan j) ∨ k = 8 ∧ afterButton k = .potStart := by decide

theorem phaseRow_to_confCheck {old new : Phase} (h : PhaseRow old i new) (hnew : new = .loop .confCheck) :
    i = .potRead ∨ (i = .txByte ∧ old = .tx .confCheck) := by
  cases h with
  | txDone n => exact .inr ⟨rfl, congrArg Phase.tx (Phase.loop.inj hnew)⟩
  | potPass => exact .inl rfl
  | scanPass k | btnWaitEnd k => obtain ⟨j, hj⟩ | ⟨-, hj⟩ := afterButton_cases k <;> simp [hj] at hnew
  | _ => cases hnew

theorem phaseRow_to_potStart {old new : Phase} (h : PhaseRow old i new) (hnew : new = .loop .potStart)
    (hold : old ≠ .tx .potStart) : i = .scan 8#4 ∨ i = .btnWaitEnd 8#4 := by
  cases h with
  | txDone n => exact absurd (congrArg Phase.tx (Phase.loop.inj hnew)) hold
  | scanPass k =>
    obtain ⟨j, hj⟩ | ⟨rfl, -⟩ := afterButton_cases k
    · simp [hj] at hnew
    · exact .inl rfl
  | btnWaitEnd k =>
    obtain ⟨j, hj⟩ | ⟨rfl, -⟩ := afterButton_cases k
    · simp [hj] at hnew
    · exact .inr rfl
  | _ => cases hnew

/-- Settles O36: the two cases of `confCheckBody`, and the phase table for where MAIN comes from. -/
theorem confCheckReportsFlag : Obligations.ConfCheckReportsFlag := by
  refine ⟨rfl, fun s => ⟨fun hp hr hc ht => ?_, fun i t h hnew hi => ?_, mainStep_of_elsewhere⟩⟩
  · have hrun : exec .confCheck s = .next (confCheckBody s) := mainStep_of_enabled hp hr hc ht rfl
    rw [hrun, confCheckBody]
    exact ⟨fun hf => congrArg _ (if_pos hf), fun hf => congrArg _ (if_neg (Bool.eq_false_iff.mp hf))⟩
  · exact phaseRow_to_confCheck ((mainFollowsPhaseTable s t i h).1 hi) hnew

/-- Settles O38: POT_START is adc_busy's one writer, and the phase table leads to it past button 8. -/
theorem potStartStartsConversion : Obligations.PotStartStartsConversion := by
  refine ⟨rfl, fun i s t h => ⟨fun hs ht => ?_, fun hnew hold hi => ?_⟩, fun s => ⟨?_, mainStep_of_elsewhere⟩⟩
  · by_cases hreset : i = .reset
    · subst hreset
      obtain rfl := exec_reset_next.mp h
      cases ht
    · obtain ⟨-, -, -, -, -, -, -, onlyPotStart, -⟩ := fieldsHaveTheirWriters i s t h hreset
      exact onlyPotStart hs ht
  · exact phaseRow_to_potStart ((mainFollowsPhaseTable s t i h).1 hi) hnew hold
  · exact fun hp hr hc ht => mainStep_of_enabled hp hr hc ht rfl

/-! POT_READ. -/

theorem potReadBody_of_large
    (h : Config.potThreshold.toNat < ((s.adcData.toNat : Int) - (s.lastPot.toNat : Int)).natAbs) :
    potReadBody s = emit (potText s.adcData) .confCheck { s with lastPot := s.adcData } :=
  if_pos (decide_eq_true h)

theorem potReadBody_of_small
    (h : ((s.adcData.toNat : Int) - (s.lastPot.toNat : Int)).natAbs ≤ Config.potThreshold.toNat) :
    potReadBody s = goto .confCheck s :=
  if_neg (by simpa [exceedsThreshold] using h)

/-- Settles O39: the two cases of `potReadBody`, under POT_READ's guard. -/
theorem potReadReportsLargeChange : Obligations.PotReadReportsLargeChange := by
  refine ⟨rfl, fun s => ⟨fun hp hb hr hc ht => ?_, fun h => ?_⟩⟩
  · have hrun : exec .potRead s = .next (potReadBody s) := mainStep_of_enabled hp hr hc ht (by simp [hb])
    rw [hrun]
    exact ⟨fun hlarge => by rw [potReadBody_of_large hlarge]; rfl,
      fun hsmall => by rw [potReadBody_of_small hsmall]; rfl⟩
  · rcases h with hp | hb
    · exact mainStep_of_elsewhere hp
    · exact guarded_of_disabled (by simp [hb])

/-- Settles O40: a large change moves the baseline to the reading, a small one leaves it where it was. -/
theorem hysteresisBoundsBaseline : Obligations.HysteresisBoundsBaseline := by
  intro s t h
  obtain ⟨-, -, -, rfl⟩ := exec_potRead_next.mp h
  rcases Nat.lt_or_ge Config.potThreshold.toNat ((s.adcData.toNat : Int) - (s.lastPot.toNat : Int)).natAbs with hd | hd
  · rw [potReadBody_of_large hd]
    exact ⟨by simp, fun _ => ⟨rfl, rfl⟩⟩
  · rw [potReadBody_of_small hd]
    exact ⟨hd, fun hmoved => absurd rfl hmoved⟩

end Sys2Proof.Machine
end

section
/-! The environment's steps (60_exceptions.md R281, R283, R286, R287) and RESET (70_reset_and_hazards.md R320). -/

namespace Sys2Proof.Machine

/-- Settles O45: ENV_RX's guard is the pending flag it raises. -/
theorem envRxDeliversOneByte : Obligations.EnvRxDeliversOneByte :=
  fun _ b => ⟨opWord_setWidth (by decide) 0x20#8 b, fun h => exec_envRx_next.mpr ⟨h, rfl⟩,
    fun h => guarded_of_disabled (by simp [h])⟩

/-- Settles O47: three explicit next states and two guards. -/
theorem hardwareCompletionsSetTheirFlags : Obligations.HardwareCompletionsSetTheirFlags :=
  ⟨rfl, rfl, fun _ v => ⟨opWord_setWidth (by decide) 0x23#8 v, exec_envTimer_next.mpr rfl,
    fun h => exec_envAdcDone_next.mpr ⟨h, rfl⟩, guarded_of_disabled, fun h => exec_envTxDone_next.mpr ⟨h, rfl⟩,
    fun h => guarded_of_disabled (by simp [h])⟩⟩

theorem reset_btnLatch : ∀ k : Fin 9, State.reset.btnLatch[k] = false := by decide

/-- Settles O51: the state RESET leaves is written out in the model, field by field. -/
theorem resetSetsEveryElement : Obligations.ResetSetsEveryElement :=
  ⟨rfl, fun s => ⟨resetBody s, rfl, rfl, rfl, rfl, rfl, rfl, rfl, rfl, rfl, rfl, rfl, rfl, rfl, rfl, reset_btnLatch, rfl,
    rfl, rfl, rfl, rfl, rfl, rfl, rfl, rfl, rfl, rfl, rfl, rfl⟩⟩

end Sys2Proof.Machine
end

section
/-! Runs of scheduled words: TICKS and its display (40_display_mux.md R134), SEND and the line machine that the
receive parser refines (41_serial_rx.md sections 1 to 5). -/

namespace Sys2Proof.Machine

open Sys2Proof.Safety

variable {i : Instr} {s t : State} {b : Byte} {rest : List OpWord}

theorem runSteps_add (j k : Nat) (s : State) : runSteps (j + k) s = andThen (runSteps j s) (runSteps k) := by
  induction j generalizing s with
  | zero => rw [Nat.zero_add]; rfl
  | succ j ih => rw [Nat.add_right_comm, runSteps, runSteps, funext ih, andThen_assoc]

theorem runSteps_append {j k : Nat} {u : State} (hj : runSteps j s = .next u) (hk : runSteps k u = .next t) :
    runSteps (j + k) s = .next t := by
  rw [runSteps_add, hj]
  exact hk

theorem runSteps_one (s : State) : runSteps 1 s = step s := andThen_next_right _

/-- No source is pending. -/
def Quiet (s : State) : Prop := s.rxPending = false ∧ s.confPending = false ∧ s.tickPending = false

/-- An arrival and its DISPATCH, two steps of a run. -/
theorem runSteps_arrival {u : State} (hi : i.agent = .env) (hwf : i.wellFormed = true) {ws : List OpWord}
    (hs : s.sched = encode i :: (ws ++ rest)) (hu : exec i { s with sched := ws ++ rest } = .next u)
    (hp : u.anyPending = true) (hdue : u.dueWords = ws) (hsched : u.sched = ws ++ rest)
    (ht : dispatch { u with sched := rest } = .next t) : runSteps 2 s = .next t := by
  have harrive : step s = .next u := by
    rw [step_of_cons hs (decode_encode hwf), if_neg (by simp [hi]), hu]
  have hserve : step u = .next t := by rw [step_of_dueWords hp (hdue ▸ hsched), ht]
  exact runSteps_append (j := 1) (k := 1) ((runSteps_one s).trans harrive) ((runSteps_one u).trans hserve)

/-! TICKS. -/

theorem dispatch_of_tick (hr : s.rxPending = false) (hc : s.confPending = false) (ht : s.tickPending = true) :
    dispatch s = .next (tickBody { s with tickPending := false }) := by
  simp [dispatch, hr, hc, ht, execTick, guarded]

/-- One expiry and its TICK. -/
theorem runSteps_tick (hq : Quiet s) (hs : s.sched = tickWords 1 ++ rest) : runSteps 2 s =
    .next (tickBody { s with tickPending := false, timerPeriods := s.timerPeriods + 1, sched := rest }) := by
  obtain ⟨hr, hc, -⟩ := hq
  refine runSteps_arrival (ws := [encode .tick]) rfl rfl hs (exec_envTimer_next.mpr rfl)
    (anyPending_iff.mpr (.inr (.inr rfl))) ?_ rfl (dispatch_of_tick hr hc rfl)
  simp [State.dueWords, State.dueServices, hr, hc]

/-- What one tick appends to PT with the cursor at position c modulo 4. -/
def digitEvents (disp : Vector (BitVec 4) 4) (c : Nat) : List PortEvent :=
  [.digEn 0#4, .segN (segOf disp[Fin.ofNat 4 c]), .digEn (onehot4 (Fin.ofNat 4 c))]

theorem flatMap_range_succ {α : Type} (n : Nat) (f : Nat → List α) :
    (List.range (n + 1)).flatMap f = f 0 ++ (List.range n).flatMap fun k => f (k + 1) := by
  rw [List.range_succ_eq_map, List.flatMap_cons, List.flatMap_map]

/-- n ticks from cursor position c modulo 4: the cursor and PT, and what else can change. -/
def Ticked (c n : Nat) (rest : List OpWord) (s t : State) : Prop :=
  ∃ segN digEn timerPeriods, t = { s with
    segN := segN, digEn := digEn, timerPeriods := timerPeriods, tickPending := false, sched := rest
    cursor := Fin.ofNat 4 (c + n), pt := s.pt ++ (List.range n).flatMap fun k => digitEvents s.disp (c + k) }

theorem runSteps_ticks (c n : Nat) (hcur : s.cursor = Fin.ofNat 4 c) (hq : Quiet s)
    (hs : s.sched = tickWords n ++ rest) :
    ∃ t, runSteps (2 * n) s = .next t ∧ Ticked c n rest s t := by
  induction n generalizing s c with
  | zero =>
    obtain ⟨-, -, ht⟩ := hq
    refine ⟨s, rfl, s.segN, s.digEn, s.timerPeriods, ?_⟩
    rw [← ht, Nat.add_zero, ← hcur, ← show s.sched = rest from hs]
    simp
  | succ n ih =>
    obtain ⟨hr, hc, -⟩ := id hq
    have hfirst := runSteps_tick (rest := tickWords n ++ rest) hq hs
    obtain ⟨t, ht, segN, digEn, periods, rfl⟩ := ih (c + 1)
      (s := tickBody { s with tickPending := false, timerPeriods := s.timerPeriods + 1, sched := tickWords n ++ rest })
      (by simp [tickBody, hcur, Fin.ext_iff, Fin.val_add]) ⟨hr, hc, rfl⟩ rfl
    refine ⟨_, Nat.mul_succ 2 n ▸ Nat.add_comm 2 (2 * n) ▸ runSteps_append hfirst ht, segN, digEn, periods, ?_⟩
    rw [flatMap_range_succ, tickBody_eq, Nat.add_assoc, Nat.add_comm 1 n, ← List.append_assoc]
    simp [digitEvents, hcur, Nat.add_comm, Nat.add_left_comm]

/-- Settles O13: the cursor's own position is where the n ticks begin. -/
theorem ticksCycleTheCursor : Obligations.TicksCycleTheCursor := by
  intro s n rest hr hc ht hs
  obtain ⟨t, hrun, segN, digEn, periods, rfl⟩ :=
    runSteps_ticks s.cursor.val n (Fin.ext (Nat.mod_eq_of_lt s.cursor.isLt).symm) ⟨hr, hc, ht⟩ hs
  refine ⟨_, hrun, rfl, rfl, ?_⟩
  rw [← ht]

/-! SEND: one byte, its arrival and its service (41_serial_rx.md R160). -/

theorem dispatch_of_rx (hr : s.rxPending = true) (hc : s.confPending = false) (ht : s.tickPending = false) :
    dispatch s = exec (rxInstr s.rxData) s := by
  rw [dispatch_eq_execAll (anyPending_iff.mpr (.inl hr))]
  simp [State.dueServices, hr, hc, ht, execAll]

theorem parserView_appendByte (b : Byte) (hlen : s.rxLen.toNat ≤ 9) :
    parserView (appendByte b s) = { parserView s with line := (s.line ++ [b]).take 9 } := by
  have hline := line_length s
  rcases Nat.lt_or_eq_of_le hlen with h | h
  · have hnew : (appendByte b s).line = (s.line ++ [b]).take 9 := by
      rw [line_appendByte_of_lt h, List.take_of_length_le (by simp; omega)]
    rw [parserView, hnew, appendByte_of_lt h]
    rfl
  · rw [appendByte_of_ge h.ge, List.take_append_of_le_length (by omega), List.take_of_length_le (by omega)]
    rfl

theorem parserView_terminator (s : State) : parserView (terminator s) =
    { parserView s with
      line := [], disp := if isScoreLine s.line then scoreDigits (dec (s.line.drop 4)) else s.disp } := by
  rw [terminator_eq]
  split <;> rfl

/-- A receive service is one byte of the line machine. -/
theorem exec_receive_parserView (hi : isReceive i = true) (hlen : s.rxLen.toNat ≤ 9) (h : exec i s = .next t) :
    parserView t = parseByte (parserView s) s.rxData := by
  cases i with
  | rxG => obtain ⟨-, hb, rfl⟩ := exec_rxG_next.mp h; rw [hb]; rfl
  | rxP => obtain ⟨-, hb, rfl⟩ := exec_rxP_next.mp h; rw [hb]; rfl
  | rxE => obtain ⟨-, hb, rfl⟩ := exec_rxE_next.mp h; rw [hb]; rfl
  | rxX => obtain ⟨-, hb, rfl⟩ := exec_rxX_next.mp h; rw [hb]; rfl
  | rxCr => obtain ⟨-, hb, rfl⟩ := exec_rxCr_next.mp h; rw [hb, parserView_terminator]; rfl
  | rxLf => obtain ⟨-, hb, rfl⟩ := exec_rxLf_next.mp h; rw [hb, parserView_terminator]; rfl
  | rxOrd b =>
    obtain ⟨hord, -, hb, rfl⟩ := exec_rxOrd_next.mp h
    rw [hb, parserView_appendByte b (s := rxTake s) hlen, parseByte, beq_iff_eq.mp hord]
    rfl
  | _ => cases hi

/-- A receive service keeps the line within nine bytes. -/
theorem exec_receive_rxLen_le (hi : isReceive i = true) (hlen : s.rxLen.toNat ≤ 9) (h : exec i s = .next t) :
    t.rxLen.toNat ≤ 9 := by
  have hterm : (terminator (rxTake s)).rxLen.toNat ≤ 9 := by
    rw [terminator_eq]
    split <;> exact Nat.zero_le 9
  cases i with
  | rxG => obtain ⟨-, -, rfl⟩ := exec_rxG_next.mp h; exact Nat.zero_le 9
  | rxP => obtain ⟨-, -, rfl⟩ := exec_rxP_next.mp h; exact Nat.zero_le 9
  | rxE => obtain ⟨-, -, rfl⟩ := exec_rxE_next.mp h; exact Nat.zero_le 9
  | rxX => obtain ⟨-, -, rfl⟩ := exec_rxX_next.mp h; exact Nat.zero_le 9
  | rxCr => obtain ⟨-, -, rfl⟩ := exec_rxCr_next.mp h; exact hterm
  | rxLf => obtain ⟨-, -, rfl⟩ := exec_rxLf_next.mp h; exact hterm
  | rxOrd b => obtain ⟨-, -, -, rfl⟩ := exec_rxOrd_next.mp h; exact rxLen_appendByte_le b hlen
  | _ => cases hi

/-- Only the control bytes write a port (41_serial_rx.md R165 to R168). -/
theorem exec_receive_ports (hi : isReceive i = true) (hb : s.rxData ∉ [0x47#8, 0x50#8, 0x45#8, 0x58#8])
    (h : exec i s = .next t) : t.ports = s.ports := by
  cases i with
  | rxG => obtain ⟨-, hd, -⟩ := exec_rxG_next.mp h; simp [hd] at hb
  | rxP => obtain ⟨-, hd, -⟩ := exec_rxP_next.mp h; simp [hd] at hb
  | rxE => obtain ⟨-, hd, -⟩ := exec_rxE_next.mp h; simp [hd] at hb
  | rxX => obtain ⟨-, hd, -⟩ := exec_rxX_next.mp h; simp [hd] at hb
  | rxCr => obtain ⟨-, -, rfl⟩ := exec_rxCr_next.mp h; exact ports_terminator _
  | rxLf => obtain ⟨-, -, rfl⟩ := exec_rxLf_next.mp h; exact ports_terminator _
  | rxOrd b => obtain ⟨-, -, -, rfl⟩ := exec_rxOrd_next.mp h; exact ports_appendByte _ _
  | _ => cases hi

/-- t is s after the bytes have been sent and serviced: the line machine's view, the bound of the line, the frame, and
the ports where no byte was a control byte. -/
structure Received (bytes : List Byte) (rest : List OpWord) (s t : State) : Prop where
  view : parserView t = bytes.foldl parseByte (parserView s)
  rxLen_le : t.rxLen.toNat ≤ 9
  frame : t = { s with led := t.led, ledG := t.ledG, ledY := t.ledY, ledR := t.ledR, disp := t.disp, rxBuf := t.rxBuf,
                       rxLen := t.rxLen, rxData := t.rxData, pt := t.pt, sched := rest }
  ports : (∀ b ∈ bytes, b ∉ [0x47#8, 0x50#8, 0x45#8, 0x58#8]) → t.ports = s.ports

/-- s with byte b delivered and `rest` still scheduled. -/
def delivered (b : Byte) (rest : List OpWord) (s : State) : State :=
  { s with rxData := b, rxPending := true, sched := rest }

theorem runSteps_byte (hq : Quiet s) (hlen : s.rxLen.toNat ≤ 9) (hs : s.sched = sendWords [b] ++ rest) :
    ∃ t, runSteps 2 s = .next t ∧ Received [b] rest s t := by
  obtain ⟨hr, hc, ht⟩ := hq
  have hrx : isReceive (rxInstr b) = true := rxInstr_isReceive b
  obtain ⟨t, hrun⟩ : ∃ t, exec (rxInstr b) (delivered b rest s) = .next t :=
    exec_rxInstr_completes (s := delivered b rest s) rfl
  refine ⟨t, ?_, exec_receive_parserView (s := delivered b rest s) hrx hlen hrun,
    exec_receive_rxLen_le (s := delivered b rest s) hrx hlen hrun, ?_,
    fun hb => exec_receive_ports (s := delivered b rest s) hrx (hb b (List.mem_singleton_self b)) hrun⟩
  · refine runSteps_arrival (i := .envRx b) (ws := [encode (rxInstr b)]) rfl rfl hs (exec_envRx_next.mpr ⟨hr, rfl⟩)
      (anyPending_iff.mpr (.inl rfl)) ?_ rfl ((dispatch_of_rx (s := delivered b rest s) rfl hc ht).trans hrun)
    simp [State.dueWords, State.dueServices, hc, ht]
  · obtain ⟨_, _, _, _, _, _, _, _, rfl⟩ := exec_receiveWrites hrx hrun
    rw [delivered, ← hr]

theorem received_trans {bs cs : List Byte} {ws : List OpWord} {u : State} (h : Received bs ws s u)
    (h' : Received cs rest u t) : Received (bs ++ cs) rest s t where
  view := by rw [List.foldl_append, ← h.view, h'.view]
  rxLen_le := h'.rxLen_le
  frame := by rw [h'.frame, h.frame]
  ports hb := (h'.ports fun b hm => hb b (List.mem_append_right bs hm)).trans
    (h.ports fun b hm => hb b (List.mem_append_left cs hm))

theorem quiet_of_received {bs : List Byte} (h : Received bs rest s t) (hq : Quiet s) : Quiet t := by
  rw [h.frame]
  exact hq

/-- Bytes sent one by one on a quiet machine run to the end (41_serial_rx.md R160). -/
theorem runSteps_send (bytes : List Byte) (hq : Quiet s) (hlen : s.rxLen.toNat ≤ 9)
    (hs : s.sched = sendWords bytes ++ rest) :
    ∃ t, runSteps (2 * bytes.length) s = .next t ∧ Received bytes rest s t := by
  induction bytes generalizing s with
  | nil => exact ⟨s, rfl, rfl, hlen, by rw [← show s.sched = rest from hs], fun _ => rfl⟩
  | cons b bytes ih =>
    obtain ⟨u, hu, hbyte⟩ := runSteps_byte (b := b) (rest := sendWords bytes ++ rest) hq hlen hs
    obtain ⟨t, ht, hbytes⟩ := ih (quiet_of_received hbyte hq) hbyte.rxLen_le (by rw [hbyte.frame])
    refine ⟨t, ?_, received_trans hbyte hbytes⟩
    rw [List.length_cons, Nat.mul_succ, Nat.add_comm]
    exact runSteps_append hu ht

/-- Settles O20: what `runSteps_send` says of the line machine. -/
theorem parserRefinesLineMachine : Obligations.ParserRefinesLineMachine := by
  intro s bytes rest hr hc ht hlen hs
  obtain ⟨t, hrun, h⟩ := runSteps_send bytes ⟨hr, hc, ht⟩ hlen hs
  obtain ⟨hrx, -, -⟩ := quiet_of_received h ⟨hr, hc, ht⟩
  exact ⟨t, hrun, h.view, hrx, h.rxLen_le, h.frame⟩

/-! The line machine on whole lines (41_serial_rx.md section 5). -/

theorem rxLen_of_line_nil (hlen : s.rxLen.toNat ≤ 9) (h : s.line = []) : s.rxLen = 0#4 := by
  have hzero := line_length s
  rw [h, List.length_nil] at hzero
  exact BitVec.eq_of_toNat_eq (show s.rxLen.toNat = 0 by omega)

theorem parseByte_ordinary {v : ParserView} (h : isOrdinary b = true) :
    parseByte v b = { v with line := (v.line ++ [b]).take 9 } := by
  rw [parseByte, beq_iff_eq.mp h]

theorem parseByte_terminator {v : ParserView} (h : b = 0x0D#8 ∨ b = 0x0A#8) : parseByte v b =
    { v with line := [], disp := if isScoreLine v.line then scoreDigits (dec (v.line.drop 4)) else v.disp } := by
  rcases h with rfl | rfl <;> rfl

/-- A control byte or a terminator leaves the line empty (41_serial_rx.md R169, R171). -/
theorem parseByte_line_nil {v : ParserView} (h : b ∈ [0x47#8, 0x50#8, 0x45#8, 0x58#8, 0x0D#8, 0x0A#8]) :
    (parseByte v b).line = [] := by
  simp only [List.mem_cons, List.not_mem_nil, or_false] at h
  rcases h with rfl | rfl | rfl | rfl | rfl | rfl <;> rfl

theorem take_nine_append (l m : List Byte) : (l.take 9 ++ m).take 9 = (l ++ m).take 9 := by
  rw [List.take_append, List.take_append, List.take_take, List.length_take, Nat.min_self]
  congr 2
  omega

theorem foldl_parseByte_ordinary {bytes : List Byte} {v : ParserView} (hb : ∀ b ∈ bytes, isOrdinary b = true)
    (hv : v.line.length ≤ 9) : bytes.foldl parseByte v = { v with line := (v.line ++ bytes).take 9 } := by
  induction bytes generalizing v with
  | nil => simp [List.take_of_length_le hv]
  | cons b bytes ih =>
    rw [List.foldl_cons, parseByte_ordinary (hb b (by simp)), ih (fun c hc => hb c (by simp [hc])) (by simp)]
    simp [take_nine_append]

/-- A line of ordinary bytes is evaluated as its first nine (41_serial_rx.md R170). -/
theorem foldl_parseByte_line {bytes : List Byte} {v : ParserView} (hv : v.line = [])
    (hb : ∀ b ∈ bytes, isOrdinary b = true) (hterm : b = 0x0D#8 ∨ b = 0x0A#8) :
    (bytes ++ [b]).foldl parseByte v = { v with
      disp := if isScoreLine (bytes.take 9) then scoreDigits (dec ((bytes.take 9).drop 4)) else v.disp } := by
  rw [List.foldl_append, foldl_parseByte_ordinary hb (by simp [hv]), List.foldl_cons, List.foldl_nil,
    parseByte_terminator hterm, hv, List.nil_append]

/-- Settles O22: the line machine keeps the first nine bytes and evaluates them. -/
theorem overlongLineKeepsNineBytes : Obligations.OverlongLineKeepsNineBytes := by
  intro s bytes term rest hr hc ht hlen hb hterm hs
  have hle : s.rxLen.toNat ≤ 9 := by rw [hlen]; decide
  obtain ⟨t, hrun, h⟩ := runSteps_send (bytes ++ [term]) ⟨hr, hc, ht⟩ hle hs
  have hview := h.view
  rw [foldl_parseByte_line (line_of_rxLen_zero hlen) (fun b hm => isOrdinary_iff.mpr (hb b hm)) hterm] at hview
  obtain ⟨hline, hled, hdisp⟩ := ParserView.mk.inj hview
  refine ⟨t, by simpa using hrun, hdisp, ?_, hled, by rw [h.frame]⟩
  exact rxLen_of_line_nil h.rxLen_le (hline.trans (line_of_rxLen_zero hlen))

theorem isOrdinary_of_digit (h : 0x30 ≤ b.toNat ∧ b.toNat ≤ 0x39) : isOrdinary b = true := by
  rw [isOrdinary_iff]
  intro hm
  simp only [List.mem_cons, List.not_mem_nil, or_false] at hm
  rcases hm with rfl | rfl | rfl | rfl | rfl | rfl <;> revert h <;> decide

/-- Settles O21: the bytes are an ordinary line of at most nine bytes, valid by its form, and none of them is a
control byte. -/
theorem scoreLineSetsDigits : Obligations.ScoreLineSetsDigits := by
  intro s digits term rest hr hc ht hlen hpos hfive hdigits hterm hs
  have hle : s.rxLen.toNat ≤ 9 := by rw [hlen]; decide
  have htag : ∀ b ∈ [0x53#8, 0x43#8, 0x52#8, 0x3A#8], isOrdinary b = true := by decide
  have hord : ∀ b ∈ [0x53#8, 0x43#8, 0x52#8, 0x3A#8] ++ digits, isOrdinary b = true := fun b hb =>
    (List.mem_append.mp hb).elim (htag b) fun hb => isOrdinary_of_digit (hdigits b hb)
  have hvalid : isScoreLine ([0x53#8, 0x43#8, 0x52#8, 0x3A#8] ++ digits) = true :=
    (isScoreLine_iff _).mpr ⟨by simp; omega, rfl, hdigits⟩
  have hports : ∀ b ∈ [0x53#8, 0x43#8, 0x52#8, 0x3A#8] ++ digits ++ [term],
      b ∉ [0x47#8, 0x50#8, 0x45#8, 0x58#8] := fun b hb => by
    rcases List.mem_append.mp hb with hb | hb
    · exact fun hm => isOrdinary_iff.mp (hord b hb) (List.mem_append_left [0x0D#8, 0x0A#8] hm)
    · obtain rfl := List.mem_singleton.mp hb
      rcases hterm with rfl | rfl <;> decide
  obtain ⟨t, hrun, h⟩ := runSteps_send _ ⟨hr, hc, ht⟩ hle hs
  have hview := h.view
  rw [foldl_parseByte_line (line_of_rxLen_zero hlen) hord hterm, List.take_of_length_le (by simp; omega), if_pos hvalid]
    at hview
  obtain ⟨hline, hled, hdisp⟩ := ParserView.mk.inj hview
  have hframe := h.frame
  obtain ⟨hpt, -, -, hg, hy, hr'⟩ : t.pt = s.pt ∧ t.digEn = s.digEn ∧ t.segN = s.segN ∧ t.ledG = s.ledG ∧
      t.ledY = s.ledY ∧ t.ledR = s.ledR := by simpa [State.ports] using h.ports hports
  rw [hpt, hg, hy, hr', show t.led = s.led from hled] at hframe
  refine ⟨t, ?_, hdisp, rxLen_of_line_nil h.rxLen_le (hline.trans (line_of_rxLen_zero hlen)), hframe⟩
  have hcount : ([0x53#8, 0x43#8, 0x52#8, 0x3A#8] ++ digits ++ [term]).length = digits.length + 5 := by simp
  rwa [hcount] at hrun

/-- Settles O23: the line machine forgets the line at a control byte or terminator, and is a function of its view. -/
theorem controlOrTerminatorResynchronises : Obligations.ControlOrTerminatorResynchronises := by
  intro s1 s2 c bytes hs hc
  have hrun : ∀ s ∈ [s1, s2], ∃ u t, runSteps 2 s = .next u ∧ u.rxLen = 0#4 ∧ u.line = [] ∧
      runSteps (2 * bytes.length) u = .next t ∧ parserView t = bytes.foldl parseByte (parserView u) := by
    intro s hm
    obtain ⟨hr, hcf, ht, hlen, hsched⟩ := hs s hm
    have hq : Quiet s := ⟨hr, hcf, ht⟩
    obtain ⟨u, hu, hbyte⟩ := runSteps_byte (b := c) (rest := sendWords bytes) hq hlen hsched
    have hline : u.line = [] := (congrArg ParserView.line hbyte.view).trans (parseByte_line_nil hc)
    obtain ⟨t, ht, hbytes⟩ := runSteps_send (rest := []) bytes (quiet_of_received hbyte hq) hbyte.rxLen_le
      (by rw [hbyte.frame, List.append_nil])
    exact ⟨u, t, hu, rxLen_of_line_nil hbyte.rxLen_le hline, hline, ht, hbytes.view⟩
  obtain ⟨u1, t1, hu1, hlen1, hline1, ht1, hview1⟩ := hrun s1 (by simp)
  obtain ⟨u2, t2, hu2, hlen2, hline2, ht2, hview2⟩ := hrun s2 (by simp)
  refine ⟨u1, u2, t1, t2, hu1, hu2, hlen1, hlen2, ht1, ht2, fun hled hdisp => ?_⟩
  have hviews : parserView u1 = parserView u2 := by simp only [parserView, hline1, hline2, hled, hdisp]
  rw [hviews, ← hview2] at hview1
  obtain ⟨-, hled, hdisp⟩ := ParserView.mk.inj hview1
  exact ⟨hled, hdisp⟩

end Sys2Proof.Machine
end

section
/-! Stalls: a wait that nothing ends holds MAIN, over any number of steps (42_serial_tx.md R206, 43_input_sampler.md
R243). -/

namespace Sys2Proof.Machine

open Sys2Proof.Safety

variable {i : Instr} {s t : State} {P : State → Prop} {ok : Instr → Prop}

/-! Properties kept by the operations of a run. -/

theorem exec_sched (h : exec i s = .next t) : t.sched = s.sched := by
  cases ha : i.agent with
  | power => obtain rfl := agent_power_iff.mp ha; obtain rfl := exec_reset_next.mp h; rfl
  | isr =>
    rcases agent_isr_iff.mp ha with hr | rfl | rfl
    · obtain ⟨_, _, _, _, _, _, _, _, rfl⟩ := exec_receiveWrites hr h; rfl
    · obtain ⟨-, rfl⟩ := exec_confSvc_next.mp h; rfl
    · obtain ⟨_, _, _, rfl⟩ := exec_tick_writes h; rfl
  | main => obtain ⟨_, _, _, _, _, _, rfl⟩ := exec_mainWrites ha h; rfl
  | env => obtain ⟨_, _, _, _, _, _, _, _, _, _, rfl⟩ := exec_envWrites ha h; rfl

theorem dispatch_sched (h : dispatch s = .next t) : t.sched = s.sched :=
  dispatch_keeps (P := fun u => u.sched = s.sched) (fun _ _ _ hs hi => (exec_sched hi).trans hs) rfl h

theorem execAll_keeps {is : List Instr} (he : ∀ i ∈ is, ∀ s t, P s → exec i s = .next t → P t) (hs : P s)
    (h : execAll is s = .next t) : P t := by
  induction is generalizing s with
  | nil => cases h; exact hs
  | cons i is ih =>
    obtain ⟨u, hu, ht⟩ := andThen_next.mp h
    exact ih (fun j hj => he j (List.mem_cons_of_mem i hj)) (he i List.mem_cons_self s u hs hu) ht

theorem dispatch_keeps_of_isr (he : ∀ i s t, i.agent = .isr → P s → exec i s = .next t → P t) (hs : P s)
    (h : dispatch s = .next t) : P t := by
  obtain ⟨hp, -⟩ := dispatch_next.mp h
  rw [dispatch_eq_execAll hp] at h
  exact execAll_keeps (fun i hi s t => he i s t (dueServices_decode hi).2) hs h

/-- The operations of the words, where they decode, are all ok. -/
def WordsOk (ok : Instr → Prop) (ws : List OpWord) : Prop := ∀ w ∈ ws, ∀ i, decode w = .ok i → ok i

/-- A property kept by the ok operations, by MAIN's and by the ISR's, and not about `sched`, is kept by a step whose
scheduled words are ok. -/
theorem step_keeps_of_ok (hsched : ∀ s r, P s → P { s with sched := r })
    (he : ∀ i s t, ok i ∨ i.agent = .main ∨ i.agent = .isr → P s → exec i s = .next t → P t) (hs : P s)
    (hok : WordsOk ok s.sched) (h : step s = .next t) : P t ∧ WordsOk ok t.sched := by
  have hisr := fun i s t (hi : i.agent = .isr) => he i s t (.inr (.inr hi))
  have hrest : ∀ {rest}, (∀ w ∈ rest, w ∈ s.sched) → t.sched = rest → WordsOk ok t.sched :=
    fun hsub ht w hw => hok w (hsub w (ht ▸ hw))
  rcases step_next h with ⟨-, hd⟩ | ⟨-, -, i, hi, hx⟩ | ⟨-, -, -, rfl⟩ | ⟨w, rest, i, hw, hi, -, hx⟩ | ⟨rest, hw, hd⟩
  · exact ⟨dispatch_keeps_of_isr hisr hs hd, hrest (fun _ => id) (dispatch_sched hd)⟩
  · exact ⟨he i _ _ (.inr (.inl (mainOp_decodes hi).2)) hs hx, hrest (fun _ => id) (exec_sched hx)⟩
  · exact ⟨hs, hok⟩
  · exact ⟨he i _ _ (.inl (hok w (by simp [hw]) i hi)) (hsched _ rest hs) hx,
      hrest (fun x hx => by simp [hw, hx]) (exec_sched hx)⟩
  · exact ⟨dispatch_keeps_of_isr hisr (hsched _ rest hs) hd, hrest (fun x hx => by simp [hw, hx]) (dispatch_sched hd)⟩

theorem runSteps_keeps_of_ok (k : Nat) (hsched : ∀ s r, P s → P { s with sched := r })
    (he : ∀ i s t, ok i ∨ i.agent = .main ∨ i.agent = .isr → P s → exec i s = .next t → P t) (hs : P s)
    (hok : WordsOk ok s.sched) (h : runSteps k s = .next t) : P t := by
  induction k generalizing s with
  | zero => cases h; exact hs
  | succ k ih =>
    obtain ⟨u, hu, ht⟩ := andThen_next.mp h
    obtain ⟨hPu, hoku⟩ := step_keeps_of_ok hsched he hs hok hu
    exact ih hPu hoku ht

theorem ne_of_word_ne {w : OpWord} {i j : Instr} (hw : w ≠ encode j) (h : decode w = .ok i) : i ≠ j := by
  rintro rfl
  exact hw ((encodingRoundTrips.2 w i h).2.symm)

/-! A MAIN that waits. -/

theorem exec_main_of_waits (hw : MainWaits s) (hi : i.agent = .main) : exec i s ≠ .next t := by
  intro h
  obtain ⟨-, hop⟩ := mainOp_of_exec hi h
  rw [mainOp_eq_none_iff.mpr hw] at hop
  cases hop

/-- The block's own step exists while MAIN waits: DISPATCH, or the wait itself (log entry 2). -/
theorem step_of_waits (hs : s.sched = []) (hw : MainWaits s) : ∃ u, step s = .next u := by
  rw [step_of_nil hs]
  cases hp : s.anyPending with
  | true => obtain ⟨u, -, hd⟩ := dispatch_runs hp; exact ⟨_, by rw [ownStep_of_pending hp, hd]⟩
  | false => exact ⟨s, ownStep_of_waits hp (mainOp_eq_none_iff.mpr hw)⟩

/-- confirm_flag is cleared by MAIN and a power cycle alone (10_state.md R49). -/
theorem exec_keeps_confirmFlag (hmain : i.agent ≠ .main) (hreset : i ≠ .reset) (h : exec i s = .next t)
    (hs : s.confirmFlag = true) : t.confirmFlag = true := by
  obtain ⟨-, -, -, onlyWaitEnd, -⟩ := fieldsHaveTheirWriters i s t h hreset
  by_contra ht
  exact hmain (onlyWaitEnd hs (Bool.eq_false_iff.mpr ht) ▸ rfl)

/-- What stays as it was in s while MAIN waits: its position, the transmitter's line, the latches, the baseline and a
set confirm_flag. -/
structure Held (s u : State) : Prop where
  phase : u.phase = s.phase
  txs : u.txs = s.txs
  txLine : u.txLine = s.txLine
  txIdx : u.txIdx = s.txIdx
  btnLatch : u.btnLatch = s.btnLatch
  lastPot : u.lastPot = s.lastPot
  confirmFlag : s.confirmFlag = true → u.confirmFlag = true

theorem exec_held {u v : State} (hmain : i.agent ≠ .main) (hreset : i ≠ .reset) (hu : Held s u)
    (h : exec i u = .next v) : Held s v := by
  obtain ⟨hphase, hline, hidx, htxs⟩ := exec_keeps_line hmain hreset h
  obtain ⟨-, -, -, -, onlyMain, -⟩ := fieldsHaveTheirWriters i u v h hreset
  have hlatch : v.btnLatch = u.btnLatch := by_contra fun hne => hmain (onlyMain (.inl hne))
  have hpot : v.lastPot = u.lastPot := by_contra fun hne => hmain (onlyMain (.inr (.inl hne)))
  exact ⟨hphase.trans hu.phase, htxs.trans hu.txs, hline.trans hu.txLine, hidx.trans hu.txIdx, hlatch.trans hu.btnLatch,
    hpot.trans hu.lastPot, fun hf => exec_keeps_confirmFlag hmain hreset h (hu.confirmFlag hf)⟩

/-- A wait that the ok operations and the ISR's do not end holds MAIN over any number of steps. -/
theorem runSteps_held (k : Nat) {wait : State → Prop} (hwait : ∀ u, wait u → u.phase = s.phase → MainWaits u)
    (hsched : ∀ u r, wait u → wait { u with sched := r }) (hreset : ¬ ok .reset)
    (he : ∀ i u v, i.agent ≠ .main → ok i ∨ i.agent = .isr → wait u → exec i u = .next v → wait v) (hs : wait s)
    (hok : WordsOk ok s.sched) (h : runSteps k s = .next t) : Held s t ∧ wait t := by
  refine runSteps_keeps_of_ok (P := fun u => Held s u ∧ wait u) k ?_ ?_ ⟨⟨rfl, rfl, rfl, rfl, rfl, rfl, id⟩, hs⟩ hok h
  · rintro u r ⟨⟨hphase, htxs, hline, hidx, hlatch, hpot, hflag⟩, hu⟩
    exact ⟨⟨hphase, htxs, hline, hidx, hlatch, hpot, hflag⟩, hsched u r hu⟩
  · rintro i u v hi ⟨hheld, hu⟩ hx
    have hmain : i.agent ≠ .main := fun ha => exec_main_of_waits (hwait u hu hheld.phase) ha hx
    have hi : ok i ∨ i.agent = .isr := hi.imp_right fun hi => hi.resolve_left hmain
    have hne : i ≠ .reset := by
      rintro rfl
      exact hi.elim hreset nofun
    exact ⟨exec_held hmain hne hheld hx, he i u v hmain hi hu hx⟩

/-- Settles O29: TX with tx_empty 0 is a wait that ENV_TX_DONE and a power cycle alone end. -/
theorem transmitStallHangsMain : Obligations.TransmitStallHangsMain := by
  intro s t next k hp hempty hwords h
  have hwait : ∀ u : State, u.txEmpty = false → u.phase = s.phase → MainWaits u :=
    fun u hu hphase => .inl ⟨⟨next, hphase.trans hp⟩, hu⟩
  have hkeep : ∀ (i : Instr) (u v : State), i.agent ≠ .main → (i ≠ .envTxDone ∧ i ≠ .reset) ∨ i.agent = .isr →
      u.txEmpty = false → exec i u = .next v → v.txEmpty = false := by
    intro i u v _ hi hu hx
    by_contra hv
    have hend := exec_sets_txEmpty hu hx (by simpa using hv)
    rcases hi with ⟨hdone, hreset⟩ | hisr
    · exact hend.elim hdone hreset
    · rcases hend with rfl | rfl <;> cases hisr
  obtain ⟨hheld, ht⟩ := runSteps_held (ok := fun i => i ≠ .envTxDone ∧ i ≠ .reset) k hwait (fun _ _ hu => hu)
    (by simp) hkeep hempty (fun w hw i hi => ⟨ne_of_word_ne (hwords w hw).1 hi, ne_of_word_ne (hwords w hw).2 hi⟩) h
  exact ⟨hheld.phase.trans hp, ht, hheld.txs, hheld.txLine, hheld.txIdx, hheld.btnLatch, hheld.lastPot,
    hheld.confirmFlag, fun hsched => step_of_waits hsched (hwait t ht hheld.phase)⟩

/-- adc_busy is cleared by ENV_ADC_DONE and a power cycle alone (43_input_sampler.md R240). -/
theorem exec_clears_adcBusy (hs : s.adcBusy = true) (h : exec i s = .next t) (ht : t.adcBusy = false) :
    (∃ v, i = .envAdcDone v) ∨ i = .reset := by
  by_contra hne
  obtain ⟨hdone, hreset⟩ := not_or.mp hne
  obtain ⟨-, -, -, -, -, -, onlyEnv, -⟩ := fieldsHaveTheirWriters i s t h hreset
  have henv : i.agent = .env := onlyEnv (by simp [hs, ht])
  have hkeep : t.adcBusy = s.adcBusy := by
    cases i with
    | envRx b => obtain ⟨-, rfl⟩ := exec_envRx_next.mp h; rfl
    | envConf l => obtain rfl := exec_envConf_next.mp h; rfl
    | envTimer => obtain rfl := exec_envTimer_next.mp h; rfl
    | envAdcDone v => exact absurd ⟨v, rfl⟩ hdone
    | envTxDone => obtain ⟨-, rfl⟩ := exec_envTxDone_next.mp h; rfl
    | envBtn v => obtain rfl := exec_envBtn_next.mp h; rfl
    | _ => cases henv
  simp [hkeep, hs] at ht

/-- Settles O30: POT_WAIT with adc_busy 1 is a wait that ENV_ADC_DONE and a power cycle alone end. -/
theorem conversionStallHangsMain : Obligations.ConversionStallHangsMain := by
  intro s t k hp hbusy hwords h
  have hwait : ∀ u : State, u.adcBusy = true → u.phase = s.phase → MainWaits u :=
    fun u hu hphase => .inr ⟨hphase.trans hp, hu⟩
  have hkeep : ∀ (i : Instr) (u v : State), i.agent ≠ .main → ((∀ v, i ≠ .envAdcDone v) ∧ i ≠ .reset) ∨ i.agent = .isr →
      u.adcBusy = true → exec i u = .next v → v.adcBusy = true := by
    intro i u v _ hi hu hx
    by_contra hv
    have hend := exec_clears_adcBusy hu hx (by simpa using hv)
    rcases hi with ⟨hdone, hreset⟩ | hisr
    · exact hend.elim (fun ⟨v, hv⟩ => hdone v hv) hreset
    · rcases hend with ⟨v, rfl⟩ | rfl <;> cases hisr
  obtain ⟨hheld, ht⟩ := runSteps_held (ok := fun i => (∀ v, i ≠ .envAdcDone v) ∧ i ≠ .reset) k hwait (fun _ _ hu => hu)
    (by simp) hkeep hbusy
    (fun w hw i hi => ⟨fun v => ne_of_word_ne ((hwords w hw).1 v) hi, ne_of_word_ne (hwords w hw).2 hi⟩) h
  refine ⟨hheld.phase.trans hp, ht, hheld.txs, hheld.txLine, hheld.confirmFlag, fun hpend hsched => ?_⟩
  obtain ⟨u, hd, hr, hc, htk, -⟩ := dispatchServicesEverySource t hpend
  exact ⟨u, by rw [step_of_nil hsched, ownStep_of_pending (anyPending_iff.mpr hpend), hd], hr, hc, htk⟩

end Sys2Proof.Machine
end

section
/-! Fair runs (70_reset_and_hazards.md R342): the display goes round, MAIN's operation is taken and every wait ends. -/

namespace Sys2Proof.Machine

open Sys2Proof.Safety

variable {s t : State} {i : Instr} {states : Nat → State} {words : Nat → List OpWord} {n m : Nat}

/-! One step of a run. -/

/-- What a run takes between two states: one operation that is no service, or one DISPATCH. -/
inductive RunStep (s : State) (ws : List OpWord) (t : State) : Prop where
  | op (i : Instr) (word : ws = [encode i]) (decodes : decode (encode i) = .ok i) (agent : i.agent ≠ .isr)
      (h : exec i s = .next t)
  | dispatch (word : ws = s.dueWords) (h : Machine.dispatch s = .next t)

theorem runStep_of_takes {ws : List OpWord} (hs : s.sched = []) (h : Takes s ws t) : RunStep s ws t := by
  obtain ⟨hne, ht, hstep⟩ := h
  have hself : { s with sched := [] } = s := by rw [← hs]
  rcases step_next hstep with ⟨hw, -⟩ | ⟨hw, -⟩ | ⟨hw, -⟩ | ⟨w, rest, i, hw, hi, ha, hx⟩ | ⟨rest, hw, hd⟩
  · exact absurd hw hne
  · exact absurd hw hne
  · exact absurd hw hne
  · obtain rfl : rest = [] := (exec_sched hx).symm.trans ht
    obtain rfl : encode i = w := (encodingRoundTrips.2 w i hi).2
    exact .op i hw hi ha (hself ▸ hx)
  · obtain rfl : rest = [] := (dispatch_sched hd).symm.trans ht
    exact .dispatch (hw.trans (List.append_nil _)) (hself ▸ hd)

theorem runStep (hrun : IsRun states words) (n : Nat) : RunStep (states n) (words n) (states (n + 1)) :=
  runStep_of_takes (hrun n).1 (hrun n).2

theorem agent_of_mem_dueWords (hi : decode (encode i) = .ok i) (h : encode i ∈ s.dueWords) : i.agent = .isr := by
  obtain ⟨j, hj, hword⟩ := List.mem_map.mp h
  obtain ⟨hdec, hisr⟩ := dueServices_decode hj
  rw [hword, hi] at hdec
  rwa [Except.ok.inj hdec]

theorem exec_of_word (hrun : IsRun states words) (hw : words n = [encode i]) (hi : decode (encode i) = .ok i)
    (ha : i.agent ≠ .isr) : exec i (states n) = .next (states (n + 1)) := by
  cases runStep hrun n with
  | op j word decodes agent h =>
    rw [List.singleton_inj.mp (hw.symm.trans word), decodes] at hi
    exact Except.ok.inj hi ▸ h
  | dispatch word h =>
    exact absurd (agent_of_mem_dueWords hi (word ▸ hw ▸ List.mem_singleton_self (encode i))) ha

theorem dispatch_of_dueWords (hrun : IsRun states words) (hw : words n = (states n).dueWords) :
    dispatch (states n) = .next (states (n + 1)) := by
  cases runStep hrun n with
  | op j word decodes agent h =>
    exact absurd (agent_of_mem_dueWords decodes (hw ▸ word ▸ List.mem_singleton_self (encode j))) agent
  | dispatch word h => exact h

/-- The first time that D holds from a on, Q holds too, if Q holds at a and is kept until D. -/
theorem exists_first {D Q : Nat → Prop} {a m : Nat} (ham : a ≤ m) (hD : D m) (hQ : Q a)
    (keep : ∀ k, a ≤ k → Q k → ¬ D k → Q (k + 1)) : ∃ k, a ≤ k ∧ D k ∧ Q k := by
  induction ham using Nat.decreasingInduction with
  | self => exact ⟨m, le_refl m, hD, hQ⟩
  | of_succ k hk ih =>
    by_cases hDk : D k
    · exact ⟨k, le_refl k, hDk, hQ⟩
    · obtain ⟨j, hj, h⟩ := ih (keep k (le_refl k) hQ hDk) fun l hl => keep l (by omega)
      exact ⟨j, by omega, h⟩

/-! The display goes round (40_display_mux.md R135). -/

theorem tick_of_dispatch (ht : s.tickPending = true) (h : dispatch s = .next t) :
    t.cursor = s.cursor + 1 ∧ t.digEn = onehot4 s.cursor := by
  obtain ⟨u, hu, hcur, rfl⟩ := eq_of_dispatch h
  rw [tickPart_of_pending (s := confPart u) (hu.trans ht), tickBody_eq, ← hcur]
  exact ⟨rfl, rfl⟩

theorem dispatch_keeps_cursor (ht : s.tickPending = false) (h : dispatch s = .next t) : t.cursor = s.cursor := by
  obtain ⟨u, hu, hcur, rfl⟩ := eq_of_dispatch h
  rw [tickPart_of_none (s := confPart u) (hu.trans ht), ← hcur]
  rfl

/-! MAIN's operation stays named until it is taken (44_sequencer.md R261, R265). -/

theorem mainOp_keeps (hphase : t.phase = s.phase) (hempty : s.txEmpty = true → t.txEmpty = true)
    (hbusy : s.adcBusy = false → t.adcBusy = false) (h : s.mainOp = some i) : t.mainOp = some i := by
  rw [State.mainOp, hphase]
  rw [State.mainOp] at h
  cases hp : s.phase with
  | tx n =>
    simp only [hp] at h ⊢
    split at h
    · rename_i he; rwa [if_pos (hempty he)]
    · cases h
  | loop p =>
    cases p with
    | potWait =>
      simp only [hp] at h ⊢
      split at h
      · cases h
      · rename_i hb; rwa [if_neg (by simp [hbusy (Bool.eq_false_iff.mpr hb)])]
    | _ => simpa only [hp] using h

theorem dispatch_keeps_main (h : dispatch s = .next t) :
    t.phase = s.phase ∧ t.txEmpty = s.txEmpty ∧ t.adcBusy = s.adcBusy := by
  obtain ⟨hp, -⟩ := dispatch_next.mp h
  obtain ⟨u, hd, -, -, -, -, -, hframe⟩ := dispatchServicesEverySource s (anyPending_iff.mp hp)
  obtain rfl := Host.Outcome.next.inj (h.symm.trans hd)
  rw [hframe]
  exact ⟨rfl, rfl, rfl⟩

theorem runStep_keeps_mainOp {ws : List OpWord} (h : RunStep s ws t) (hreset : ws ≠ [encode .reset])
    (hne : ws ≠ [encode i]) (hi : s.mainOp = some i) : t.phase = s.phase ∧ t.mainOp = some i := by
  cases h with
  | op j word _ agent h =>
    cases ha : j.agent with
    | isr => exact absurd ha agent
    | power => exact absurd (agent_power_iff.mp ha ▸ word) hreset
    | main =>
      obtain ⟨-, hj⟩ := mainOp_of_exec ha h
      exact absurd (Option.some.inj (hj.symm.trans hi) ▸ word) hne
    | env =>
      obtain ⟨_, _, _, _, _, _, _, _, _, _, rfl⟩ := exec_envWrites ha h
      exact ⟨rfl, mainOp_keeps (s := s) rfl (fun he => by simp [he]) (fun hb => by simp [hb]) hi⟩
  | dispatch word h =>
    obtain ⟨hphase, hempty, hbusy⟩ := dispatch_keeps_main h
    exact ⟨hphase, mainOp_keeps hphase hempty.trans hbusy.trans hi⟩

section

variable (hrun : IsRun states words) (hfair : Fair states words) (hreset : ∀ n, words n ≠ [encode .reset])
include hrun hfair hreset

/-- A pending tick waits for its DISPATCH (60_exceptions.md R289). -/
theorem exists_tick_dispatch (n : Nat) :
    ∃ m, n ≤ m ∧ words m = (states m).dueWords ∧ (states m).tickPending = true := by
  obtain ⟨a, ha, hw⟩ := hfair.timer_expires n
  have htick : (states (a + 1)).tickPending = true := by
    have hx := exec_of_word hrun hw (by decide) (by decide)
    rw [exec_envTimer_next.mp hx]
  obtain ⟨m, hm, hdue⟩ := hfair.dispatched (a + 1) (anyPending_iff.mpr (.inr (.inr htick)))
  obtain ⟨k, hk, hdue, htick⟩ := exists_first (D := fun k => words k = (states k).dueWords)
    (Q := fun k => (states k).tickPending = true) hm hdue htick fun k _ htick hne => by
      cases runStep hrun k with
      | op i word _ agent h =>
        by_contra hclear
        obtain ⟨-, -, -, -, -, cleared⟩ := exec_pending_changes h
        rcases cleared htick (Bool.eq_false_iff.mpr hclear) with rfl | rfl
        · exact agent rfl
        · exact hreset k word
      | dispatch word h => exact absurd word hne
  exact ⟨k, by omega, hdue, htick⟩

/-- The next tick shows the position of the cursor and moves it on. -/
theorem exists_next_position (n : Nat) :
    ∃ m, n ≤ m ∧ (states m).digEn = onehot4 (states n).cursor ∧ (states m).cursor = (states n).cursor + 1 := by
  obtain ⟨m, hm, hD⟩ := exists_tick_dispatch hrun hfair hreset n
  obtain ⟨k, hk, ⟨hdue, htick⟩, hcur⟩ := exists_first
    (D := fun k => words k = (states k).dueWords ∧ (states k).tickPending = true)
    (Q := fun k => (states k).cursor = (states n).cursor) hm hD rfl fun k _ hcur hne => by
      cases runStep hrun k with
      | op i word _ agent h =>
        obtain ⟨-, hkeep⟩ := cursorIsTicksAlone
        obtain ⟨-, -, hkeep⟩ := hkeep i _ _ h
        refine (hkeep ?_ ?_).trans hcur <;> rintro rfl
        · exact agent rfl
        · exact hreset k word
      | dispatch word h =>
        exact (dispatch_keeps_cursor (Bool.eq_false_iff.mpr fun ht => hne ⟨word, ht⟩) h).trans hcur
  obtain ⟨hnext, hdig⟩ := tick_of_dispatch htick (dispatch_of_dueWords hrun hdue)
  exact ⟨k + 1, by omega, hdig.trans (by rw [hcur]), hnext.trans (by rw [hcur])⟩

theorem exists_cursor (c : Fin 4) (n : Nat) : ∃ m, n ≤ m ∧ (states m).cursor = c := by
  have hround : ∀ j : Nat, ∃ m, n ≤ m ∧ (states m).cursor = (states n).cursor + Fin.ofNat 4 j := by
    intro j
    induction j with
    | zero => exact ⟨n, le_refl n, by simp⟩
    | succ j ih =>
      obtain ⟨m, hm, hcur⟩ := ih
      obtain ⟨k, hk, -, hnext⟩ := exists_next_position hrun hfair hreset m
      exact ⟨k, by omega, by rw [hnext, hcur]; simp [Fin.ext_iff, Fin.val_add]; omega⟩
  obtain ⟨m, hm, hcur⟩ := hround (c - (states n).cursor).val
  exact ⟨m, hm, by rw [hcur]; simp⟩

theorem exists_lit (c : Fin 4) (n : Nat) : ∃ m, n ≤ m ∧ (states m).digEn = onehot4 c := by
  obtain ⟨m, hm, rfl⟩ := exists_cursor hrun hfair hreset c n
  obtain ⟨k, hk, hdig, -⟩ := exists_next_position hrun hfair hreset m
  exact ⟨k, by omega, hdig⟩

/-- MAIN's operation is taken, and MAIN stays at its position until then. -/
theorem exists_main_taken (n : Nat) (i : Instr) (hi : (states n).mainOp = some i) :
    ∃ m, n ≤ m ∧ words m = [encode i] ∧ ∀ k, n ≤ k → k ≤ m → (states k).phase = (states n).phase := by
  by_contra hnever
  push Not at hnever
  have hstay : ∀ d, (∀ k, n ≤ k → k ≤ n + d → (states k).phase = (states n).phase) ∧
      (states (n + d)).mainOp = some i := by
    intro d
    induction d with
    | zero => exact ⟨fun k h h' => congrArg (fun m => (states m).phase) (Nat.le_antisymm h' h), hi⟩
    | succ d ih =>
      obtain ⟨hphase, hop⟩ := ih
      have hne : words (n + d) ≠ [encode i] := fun hw => by
        obtain ⟨k, hk, hk', hmoved⟩ := hnever (n + d) (by omega) hw
        exact hmoved (hphase k hk hk')
      obtain ⟨hnext, hop'⟩ := runStep_keeps_mainOp (runStep hrun (n + d)) (hreset _) hne hop
      refine ⟨fun k hk hk' => ?_, hop'⟩
      rcases Nat.lt_or_eq_of_le hk' with hlt | rfl
      · exact hphase k hk (by omega)
      · exact hnext.trans (hphase (n + d) (by omega) (le_refl _))
  have hall : ∀ m, n ≤ m → (states m).mainOp = some i := fun m hm => by
    obtain ⟨d, rfl⟩ := Nat.exists_eq_add_of_le hm
    exact (hstay d).2
  obtain ⟨m, hm, hw⟩ := hfair.main_taken i n hall
  obtain ⟨d, rfl⟩ := Nat.exists_eq_add_of_le hm
  obtain ⟨k, hk, hk', hmoved⟩ := hnever (n + d) hm hw
  exact hmoved ((hstay d).1 k hk hk')

/-- The step in which a named operation of MAIN's runs, from the position that named it. -/
theorem exists_main_exec (n : Nat) (i : Instr) (hi : (states n).mainOp = some i) :
    ∃ m, n ≤ m ∧ (states m).phase = (states n).phase ∧ exec i (states m) = .next (states (m + 1)) := by
  obtain ⟨m, hm, hw, hphase⟩ := exists_main_taken hrun hfair hreset n i hi
  obtain ⟨hdec, hmain⟩ := mainOp_decodes hi
  exact ⟨m, hm, hphase m hm (le_refl m), exec_of_word hrun hw hdec (by simp [hmain])⟩

theorem exists_btnWait_end (n : Nat) (k : Fin 9) (hp : (states n).phase = .loop (.btnWait k)) :
    ∃ m, n < m ∧ (states m).phase = .loop (afterButton k) := by
  obtain ⟨m, hm, hphase, hx⟩ := exists_main_exec hrun hfair hreset n _ (by rw [State.mainOp, hp])
  obtain ⟨j, -, -, hj, ht⟩ := exec_btnWaitEnd_next.mp hx
  obtain rfl : k = j := LoopPhase.btnWait.inj (Phase.loop.inj (hp.symm.trans (hphase.symm.trans hj)))
  exact ⟨m + 1, by omega, by rw [ht]; rfl⟩

theorem exists_confWait_end (n : Nat) (hp : (states n).phase = .loop .confWait) :
    ∃ m, n < m ∧ (states m).phase = .loop (.scan 0) ∧ (states m).confirmFlag = false := by
  obtain ⟨m, hm, -, hx⟩ := exists_main_exec hrun hfair hreset n _ (by rw [State.mainOp, hp])
  obtain ⟨-, -, ht⟩ := exec_confWaitEnd_next.mp hx
  exact ⟨m + 1, by omega, by rw [ht]; exact ⟨rfl, rfl⟩⟩

end

/-- Settles O14: fairness (a) and (c) move the display on, fairness (b) MAIN. -/
theorem fairRunsLightEveryPositionAndTakeMain : Obligations.FairRunsLightEveryPositionAndTakeMain :=
  fun _ _ hrun hfair hreset => ⟨exists_lit hrun hfair hreset, exists_main_taken hrun hfair hreset,
    exists_btnWait_end hrun hfair hreset, exists_confWait_end hrun hfair hreset⟩

end Sys2Proof.Machine
end
